-- ==== Sys2Proof/Word.lean ====
section
/-! DEFINITION. The word of the equipment link (R142, R143) and the absent marker. -/

namespace Sys2Proof

/-- A 16-bit word of a frame (R142). -/
abbrev Word := BitVec 16

/-- A signed number as the word that carries it (R147). -/
def Word.ofInt (i : Int) : Word := BitVec.ofInt 16 i

/-- The absent marker, -32768 (00_scope, "Numbers and absence"). -/
def absentMarker : Int := -32768

/-- A field that may be absent, as the number that carries it. -/
def absentOr (o : Option Int) : Int := o.getD absentMarker

/-- A number that may be the absent marker, as a field that may be absent. -/
def presentOf (i : Int) : Option Int := if i = absentMarker then none else some i

end Sys2Proof
end

