-- ==== Sys2Proof/Syntax.lean ====
section
/-! DEFINITION. The commands of the block: one constructor for each row of spec/opcode_table.json. -/

namespace Sys2Proof

/-- The three link ports (R141). -/
inductive Port where
  | c | s | d
  deriving DecidableEq, Repr

/-- The three axes (00_scope, "Axes and directions"). -/
inductive Axis where
  | mast | pan | tilt
  deriving DecidableEq, Repr

/-- The two rule banks (R35). -/
inductive Bank where
  | a | b
  deriving DecidableEq, Repr

/-- The frame kinds (R149). -/
inductive Kind where
  | sample | driveStatus | demand | nodeData
  | aim | goto | jog | stop | stow | searchStart | searchEnd | clear
  | start | reset | tableWrite | tableRead | bankSwap | readStatus | readCounters | readDrops
  | linesSet | lampTest
  | status | reply | event
  deriving DecidableEq, Repr

/-- A node number, 0..31 (00_scope, "Node numbers"). -/
abbrev Node := Fin 32

/-- Where a frame arrives and what its first header word carries (R142, R143). -/
structure Header where
  port : Port
  dst  : Node
  src  : Node
  prio : Fin 8
  deriving DecidableEq, Repr

/-- The commands. A command of a frame kind is the whole arrival of a frame of that kind, with the
header and the payload words given (log 6); an expiry names its timer. -/
inductive Instr where
  /-- R180: the strap levels read, and the pin levels of the first 1 ms sample (R33). -/
  | powerOnReset (straps : BitVec 2) (pins : BitVec 8)
  /-- R181. -/
  | reset (h : Header) (payload : List Word)
  /-- R4: pairs of quantity id and value. -/
  | sample (h : Header) (payload : List Word)
  /-- R10: the quantity whose age runs out. -/
  | ageExpiry (q : Fin 24)
  /-- R22: the pin levels of the sampling instant at which a filtered level changes. -/
  | filteredLevelChange (pins : BitVec 8)
  /-- R84. -/
  | driveStatus (h : Header) (payload : List Word)
  /-- R83. -/
  | consoleDemand (h : Header) (payload : List Word)
  /-- R162, case 4. -/
  | nodeDataForward (h : Header) (payload : List Word)
  /-- R162, case 2: a frame of any kind. -/
  | frameIgnored (h : Header) (kind : Kind) (payload : List Word)
  /-- R158: the words received, and whether every stop bit was there (R142). -/
  | frameDropped (port : Port) (framing : Bool) (words : List Word)
  /-- R99. -/
  | aim (h : Header) (payload : List Word)
  /-- R104. -/
  | goto (h : Header) (payload : List Word)
  /-- R81. -/
  | jog (h : Header) (payload : List Word)
  /-- R70. -/
  | stop (h : Header) (payload : List Word)
  /-- R128. -/
  | stow (h : Header) (payload : List Word)
  /-- R110. -/
  | searchStart (h : Header) (payload : List Word)
  /-- R123. -/
  | searchEnd (h : Header) (payload : List Word)
  /-- R90. -/
  | clear (h : Header) (payload : List Word)
  /-- R179. -/
  | start (h : Header) (payload : List Word)
  /-- R156: index and the entry's fields. -/
  | tableWriteNode (h : Header) (index : Word) (fields : List Word)
  /-- R13. -/
  | tableWriteQuantity (h : Header) (index : Word) (fields : List Word)
  /-- R36: RULE_A or RULE_B. -/
  | tableWriteRule (h : Header) (bank : Bank) (index : Word) (fields : List Word)
  /-- R62. -/
  | tableWriteAxisMotion (h : Header) (index : Word) (fields : List Word)
  /-- R63. -/
  | tableWriteAxisGuard (h : Header) (index : Word) (fields : List Word)
  /-- R94. -/
  | tableWritePreset (h : Header) (index : Word) (fields : List Word)
  /-- R107. -/
  | tableWriteSearch (h : Header) (index : Word) (fields : List Word)
  /-- R97. -/
  | tableWritePointing (h : Header) (index : Word) (fields : List Word)
  /-- R20: also the pin levels as they stand at the write (R21). -/
  | tableWriteLine (h : Header) (pins : BitVec 8) (index : Word) (fields : List Word)
  /-- R151. -/
  | tableWritePort (h : Header) (index : Word) (fields : List Word)
  /-- R184. -/
  | tableWriteReport (h : Header) (index : Word) (fields : List Word)
  /-- R182: the whole payload, table id first. -/
  | tableWriteBadTable (h : Header) (payload : List Word)
  /-- R183. -/
  | tableRead (h : Header) (payload : List Word)
  /-- R56. -/
  | bankSwap (h : Header) (payload : List Word)
  /-- R185. -/
  | readStatus (h : Header) (payload : List Word)
  /-- R165. -/
  | readCounters (h : Header) (payload : List Word)
  /-- R167. -/
  | readDrops (h : Header) (payload : List Word)
  /-- R31. -/
  | linesSet (h : Header) (payload : List Word)
  /-- R30. -/
  | lampTest (h : Header) (payload : List Word)
  /-- R71. -/
  | updateExpiry (x : Axis)
  /-- R82. -/
  | jogTimerExpiry (x : Axis)
  /-- R88. -/
  | stallTimerExpiry (x : Axis)
  /-- R85. -/
  | driveAgeExpiry (x : Axis)
  /-- R122. -/
  | suspendTimerExpiry
  /-- R133. -/
  | phaseTimerExpiry
  /-- R160. -/
  | refillTimerExpiry
  /-- R185. -/
  | statusTimerExpiry
  /-- R174. -/
  | transmissionComplete (p : Port)
  /-- R22: the pin levels of a 1 ms sampling instant. -/
  | inputSample (pins : BitVec 8)
  /-- R180: the reset input is taken low. -/
  | resetInputAsserted
  deriving DecidableEq, Repr

end Sys2Proof
end

