-- ==== Sys2Proof/Config.lean ====
section
/-! DEFINITION. What is fixed for the part: its times, its queue places and its saturation points.
The spec calls no value undefined, so there is no free value here. -/

namespace Sys2Proof.Config

/-- One word time is 18 µs (R142). -/
def wordTime : Nat := 18
/-- A frame is followed by an idle of four word times (R146). -/
def idleWords : Nat := 4
/-- The longest payload, in words (R143). -/
def maxPayload : Nat := 14
/-- The input lines are sampled every 1 ms (R22), in µs. -/
def samplePeriod : Nat := 1000
/-- The refill timer expires every 10 ms (R160), in µs. -/
def refillPeriod : Nat := 10000
/-- One frame's worth of tokens, in milliframes (R161). -/
def frameTokens : Nat := 1000
/-- A counter stops at 65535 (R164). -/
def counterMax : Nat := 65535
/-- A fault count stops at 255 (R12), and so does the re-peak count (R120). -/
def byteMax : Nat := 255
/-- The port C queue has sixteen places (R170). -/
def placesC : Nat := 16
/-- The port S queue has four places (R173). -/
def placesS : Nat := 4
/-- The port D queue holds at most five NODE_DATA frames (R169). -/
def placesData : Nat := 5
/-- The probe history holds at most eight entries (R118). -/
def historyPlaces : Nat := 8
/-- DESIGN CHOICE (log 12): how many arrivals of LINES one command follows up before the rest is left
waiting for the next step. Unsafe only for a GROUP_LAMP loop that is longer than this. -/
def lineRounds : Nat := 64

end Sys2Proof.Config
end

