-- ==== Sys2Proof/Machine/State.lean ====
section
/-! DEFINITION. The state of the part, as plain data, and the state after a power-on reset. The part's
state is split as the spec splits it: the loaded tables, which a warm reset keeps (R181); what the part
senses (mode, image, lines, rule groups, permit set, meters); and what acts (axes, pointing, search,
sequencer, output). The block's queue of waiting commands stands beside them. -/

namespace Sys2Proof.Machine

/-! ### Named values (R150) -/

/-- R178. -/
inductive Mode where
  | unconfigured | operating
  deriving DecidableEq, Repr

/-- The state of a quantity record (R1). -/
inductive QuantityState where
  | never | fresh | stale
  deriving DecidableEq, Repr

/-- The function of a line (R19). -/
inductive LineFunction where
  | estop | input | output | mastLamp | beacon | groupLamp
  deriving DecidableEq, Repr

/-- The condition of a rule (R35). -/
inductive Condition where
  | gt | ge | lt | le | eq | ne | anySet | allClear | stale | always
  deriving DecidableEq, Repr

/-- The join of a rule (R35). -/
inductive Join where
  | alone | andNext
  deriving DecidableEq, Repr

/-- The action of a rule (R35). -/
inductive Action where
  | none | stopAll | stow | lower
  deriving DecidableEq, Repr

/-- The state of a group (R44). -/
inductive GroupState where
  | clear | asserted | presumed
  deriving DecidableEq, Repr

/-- The members of the permit set (R54). -/
inductive Direction where
  | mastUp | mastDown | panCw | panCcw | tiltUp | tiltDown | track
  deriving DecidableEq, Repr

/-- The state of an axis (R65). -/
inductive AxisState where
  | stopped | moving | atGoal | held | jogging | stopping | fault
  deriving DecidableEq, Repr

/-- The owner of an axis (R66). -/
inductive Owner where
  | none | search | aim | jog | safety
  deriving DecidableEq, Repr

/-- Why an axis is in FAULT (R65). -/
inductive FaultCause where
  | none | positionLost | driveSilent | driveFault | driveDropped | stall
  deriving DecidableEq, Repr

/-- What a drive reports (R65). -/
inductive DriveState where
  | ready | notReady | fault
  deriving DecidableEq, Repr

/-- R108. -/
inductive SearchState where
  | idle | probing | peaked | suspended | failed
  deriving DecidableEq, Repr

/-- R108. -/
inductive FailureReason where
  | none | probeLimit | noSignal | axisFault | suspendLimit
  deriving DecidableEq, Repr

/-- What a PROBING search waits for (R108). -/
inductive Purpose where
  | base | probe | returning
  deriving DecidableEq, Repr

/-- The axis of the present turn of a search (R108). -/
inductive Turn where
  | pan | tilt
  deriving DecidableEq, Repr

/-- The state a search was suspended from (R108). -/
inductive SuspendedFrom where
  | probing | peaked
  deriving DecidableEq, Repr

/-- R127. -/
inductive SequenceState where
  | idle | stowTilt | stowPan | stowMast | lowering
  deriving DecidableEq, Repr

/-- R127. -/
inductive SequenceName where
  | none | stow | lower
  deriving DecidableEq, Repr

/-- How a search or a sequence ended (R150). -/
inductive Ending where
  | none | done | aborted | failed | refused | ended
  deriving DecidableEq, Repr

/-- Why a sequence failed (R127). -/
inductive SequenceReason where
  | none | phaseTimeout | axisFault | driveNotReady
  deriving DecidableEq, Repr

/-- The state of a port (R152). -/
inductive PortState where
  | opened | listen | closed
  deriving DecidableEq, Repr

/-- The role of a node (R155). -/
inductive Role where
  | maint | console | observer | sensor | drive
  deriving DecidableEq, Repr

/-- Why a frame was dropped (R150). -/
inductive DropReason where
  | badForm | portClosed | unknownSource | wrongPort | kindNotAllowed | overRate | unknownDest | queueFull
  deriving DecidableEq, Repr

/-- The kinds of event (R186). -/
inductive EventKind where
  | groupChange | axisFault | searchEnd | sequenceEnd | estopChange | dropRecorded
  deriving DecidableEq, Repr

/-- The result codes of a REPLY (R149). -/
inductive Result where
  | done | noChange | clamped | partialDone | notStarted | noRights | busyOwner | stowActive
  | outOfTravel | noHeading | noPosition | noLevel | inhibited | emptyPreset | axisFault | stillFaulted
  | driveNotReady | inUse | badTable | badIndex | badValue | activeBank | emptyRules | fixedLine
  | selfCutoff | axisLimits | noDrive | estopActive
  deriving DecidableEq, Repr

/-! ### Shapes -/

/-- One thing for each axis. -/
structure PerAxis (α : Type) where
  mast : α
  pan  : α
  tilt : α
  deriving DecidableEq, Repr

/-- The entry of one axis. -/
def PerAxis.get {α : Type} (t : PerAxis α) : Axis → α
  | .mast => t.mast
  | .pan => t.pan
  | .tilt => t.tilt

/-- Replaces the entry of one axis. -/
def PerAxis.set {α : Type} (t : PerAxis α) (x : Axis) (v : α) : PerAxis α :=
  match x with
  | .mast => { t with mast := v }
  | .pan => { t with pan := v }
  | .tilt => { t with tilt := v }

/-- One thing for each port. -/
structure PerPort (α : Type) where
  c : α
  s : α
  d : α
  deriving DecidableEq, Repr

/-- The entry of one port. -/
def PerPort.get {α : Type} (t : PerPort α) : Port → α
  | .c => t.c
  | .s => t.s
  | .d => t.d

/-- Replaces the entry of one port. -/
def PerPort.set {α : Type} (t : PerPort α) (p : Port) (v : α) : PerPort α :=
  match p with
  | .c => { t with c := v }
  | .s => { t with s := v }
  | .d => { t with d := v }

/-- A timer: stopped, or running with the time it still has, in µs (log 4). -/
abbrev Timer := Option Nat

/-- A pan position and a tilt position. -/
structure PanTilt where
  pan  : Int
  tilt : Int
  deriving DecidableEq, Repr

/-! ### The loaded tables -/

/-- An entry of table NODE (R155). -/
structure NodeEntry where
  present : Bool
  port    : Port
  role    : Role
  rights  : BitVec 3
  mirror  : Bool
  rate    : Nat
  burst   : Nat
  cap     : Nat
  deriving DecidableEq, Repr

/-- The entry of a node that is not present, after a power-on reset (R155). -/
def NodeEntry.absent : NodeEntry :=
  { present := false, port := .c, role := .maint, rights := 0, mirror := false, rate := 1, burst := 1, cap := 0 }

/-- Entry 31 and the entry of the own number: not present, every other field 0 (R155). -/
def NodeEntry.fixed : NodeEntry :=
  { present := false, port := .c, role := .maint, rights := 0, mirror := false, rate := 0, burst := 0, cap := 0 }

/-- The entry of node 1 after a power-on reset (R155). -/
def NodeEntry.maintenance : NodeEntry :=
  { present := true, port := .c, role := .maint, rights := 7, mirror := false, rate := 100, burst := 16, cap := 7 }

/-- The loaded entry of a quantity (R1). -/
structure QuantityEntry where
  lo     : Int
  hi     : Int
  maxAge : Nat
  source : Node
  deriving DecidableEq, Repr

/-- A rule record (R35). -/
structure Rule where
  used      : Bool
  operand   : Fin 24
  condition : Condition
  threshold : Int
  join      : Join
  assertP   : Nat
  releaseP  : Nat
  inhibits  : BitVec 7
  action    : Action
  report    : Bool
  deriving DecidableEq, Repr

/-- The empty rule (R35). -/
def Rule.empty : Rule :=
  { used := false, operand := 0, condition := .gt, threshold := 0, join := .alone, assertP := 1, releaseP := 1,
    inhibits := 0, action := .none, report := false }

/-- A line record (R19). -/
structure LineRecord where
  function : LineFunction
  invert   : Bool
  filter   : Fin 4
  value    : Nat
  deriving DecidableEq, Repr

/-- L0 is fixed (R19). -/
def LineRecord.estop : LineRecord := { function := .estop, invert := false, filter := 2, value := 0 }

/-- L1..L7 after a power-on reset (R19). -/
def LineRecord.plain : LineRecord := { function := .input, invert := false, filter := 1, value := 0 }

/-- A motion record (R60). -/
structure MotionRecord where
  softMin     : Int
  softMax     : Int
  vmax        : Nat
  accel       : Nat
  gain        : Nat
  deadband    : Nat
  settleCount : Nat
  period      : Nat
  deriving DecidableEq, Repr

/-- The power-on default of a motion record (R60). -/
def MotionRecord.default : MotionRecord :=
  { softMin := 0, softMax := 0, vmax := 500, accel := 50, gain := 32, deadband := 10, settleCount := 3, period := 20 }

/-- A guard record (R61). -/
structure GuardRecord where
  drive       : Node
  ageLimit    : Nat
  stallDemand : Nat
  stallTime   : Nat
  stallDist   : Nat
  stowPos     : Int
  stowTol     : Nat
  deriving DecidableEq, Repr

/-- The power-on default of a guard record, but for its drive node and stow position (R61). -/
def GuardRecord.default (drive : Node) (stowPos : Int) : GuardRecord :=
  { drive := drive, ageLimit := 50, stallDemand := 300, stallTime := 20, stallDist := 20, stowPos := stowPos, stowTol := 100 }

/-- A preset (R93). -/
structure PresetRecord where
  present     : Bool
  height      : Option Int
  bearing     : Option Int
  elevation   : Option Int
  searchAfter : Bool
  deriving DecidableEq, Repr

/-- A preset after a power-on reset (R93). -/
def PresetRecord.empty : PresetRecord :=
  { present := false, height := none, bearing := none, elevation := none, searchAfter := false }

/-- The pointing record (R96). -/
structure PointingRecord where
  declination  : Int
  clearHeight  : Int
  safeHeight   : Int
  jogTimeout   : Nat
  phaseTimeout : Nat
  deriving DecidableEq, Repr

/-- Its power-on default (R96). -/
def PointingRecord.default : PointingRecord :=
  { declination := 0, clearHeight := 1500, safeHeight := 4000, jogTimeout := 30, phaseTimeout := 120 }

/-- The search record (R106). -/
structure SearchRecord where
  s0           : Nat
  smin         : Nat
  samples      : Nat
  improve      : Int
  window       : Int
  floor        : Int
  repeakDrop   : Int
  maxProbes    : Nat
  suspendLimit : Nat
  deriving DecidableEq, Repr

/-- Its power-on default (R106). -/
def SearchRecord.default : SearchRecord :=
  { s0 := 50, smin := 5, samples := 4, improve := 3, window := 500, floor := 100, repeakDrop := 20, maxProbes := 120,
    suspendLimit := 300 }

/-- The report record (R184). -/
structure ReportRecord where
  period  : Nat
  enables : BitVec 6
  deriving DecidableEq, Repr

/-- Its power-on default (R184). -/
def ReportRecord.default : ReportRecord := { period := 100, enables := 63 }

/-- A port record (R151). -/
structure PortRecord where
  state : PortState
  mask  : BitVec 8
  deriving DecidableEq, Repr

/-- Its power-on default (R154). -/
def PortRecord.default : PortRecord := { state := .opened, mask := 0xC0 }

/-- Everything a warm reset keeps (R181, item 1). `straps` are the strap levels read at the last
power-on reset, strap 1 in bit 1 (R141). -/
structure Tables where
  straps     : BitVec 2
  nodes      : Vector NodeEntry 32
  quantities : Vector QuantityEntry 24
  ruleA      : Vector Rule 48
  ruleB      : Vector Rule 48
  active     : Bank
  lines      : Vector LineRecord 8
  motion     : PerAxis MotionRecord
  guard      : PerAxis GuardRecord
  presets    : Vector PresetRecord 16
  pointing   : PointingRecord
  search     : SearchRecord
  report     : ReportRecord
  ports      : PerPort PortRecord
  deriving DecidableEq, Repr

/-! ### What the part senses -/

/-- The runtime fields of a quantity record (R1). The age remaining is the age timer in units of 10 ms. -/
structure QuantityRun where
  value  : Int
  state  : QuantityState
  age    : Timer
  faults : Nat
  deriving DecidableEq, Repr

/-- A quantity after a reset (R17). -/
def QuantityRun.start : QuantityRun := { value := 0, state := .never, age := none, faults := 0 }

/-- LINES after a reset, with its line set (R3, R17). -/
def QuantityRun.linesStart (v : Int) : QuantityRun := { value := v, state := .fresh, age := none, faults := 0 }

/-- The filter state of an input line (R19). -/
structure LineFilter where
  level : Bool
  run   : Nat
  deriving DecidableEq, Repr

/-- A group of the active bank: its first and last rule, its state and its run counters (R39, R44). -/
structure Group where
  first    : Nat
  last     : Nat
  state    : GroupState
  trueRun  : Nat
  falseRun : Nat
  deriving DecidableEq, Repr

/-- What the part senses and what follows from it. -/
structure Sensed where
  mode        : Mode
  held        : Bool
  pins        : BitVec 8
  image       : Vector QuantityRun 24
  filters     : Vector (Option LineFilter) 8
  testOn      : Bool
  testOff     : Bool
  groups      : List Group
  permit      : BitVec 7
  meters      : Vector Nat 32
  sampleTimer : Timer
  refillTimer : Timer
  deriving DecidableEq, Repr

/-! ### What acts -/

/-- The drive age timer (R65). -/
inductive DriveAge where
  | stopped
  | running (left : Nat)
  | expired
  deriving DecidableEq, Repr

/-- The runtime state of an axis (R65). -/
structure AxisRun where
  state       : AxisState
  owner       : Owner
  goal        : Option Int
  vPrev       : Int
  settle      : Nat
  jog         : Option Int
  jogTimer    : Timer
  stallTimer  : Timer
  stallPos    : Option Int
  drive       : DriveState
  driveCause  : Word
  driveAge    : DriveAge
  faultCause  : FaultCause
  updateTimer : Timer
  deriving DecidableEq, Repr

/-- An axis after either reset (R92). -/
def AxisRun.start : AxisRun :=
  { state := .stopped, owner := .none, goal := none, vPrev := 0, settle := 0, jog := none, jogTimer := none,
    stallTimer := none, stallPos := none, drive := .notReady, driveCause := 0, driveAge := .stopped,
    faultCause := .none, updateTimer := none }

/-- The runtime fields of pointing (R96); a pending search-after holds the sender of its AIM. -/
structure PointingRun where
  lastPreset : Option (Fin 16)
  snapshot   : Option Int
  pending    : Option Node
  deriving DecidableEq, Repr

/-- Pointing after either reset (R105). -/
def PointingRun.start : PointingRun := { lastPreset := none, snapshot := none, pending := none }

/-- The suspend causes of a search (R121). -/
structure SuspendCauses where
  trackLost    : Bool
  panHeld      : Bool
  tiltHeld     : Bool
  levelStale   : Bool
  lowerRunning : Bool
  deriving DecidableEq, Repr

/-- No cause of suspension. -/
def SuspendCauses.empty : SuspendCauses :=
  { trackLost := false, panHeld := false, tiltHeld := false, levelStale := false, lowerRunning := false }

/-- An entry of the probe history (R118). -/
structure ProbeEntry where
  goal     : PanTilt
  level    : Int
  accepted : Bool
  step     : Nat
  deriving DecidableEq, Repr

/-- The runtime record of the peak search (R108). -/
structure SearchRun where
  state     : SearchState
  reason    : FailureReason
  purpose   : Purpose
  centre    : Option PanTilt
  best      : Option PanTilt
  bestLevel : Option Int
  probeGoal : Option PanTilt
  turn      : Turn
  positive  : Bool
  failed    : Nat
  gain      : Bool
  noGain    : Nat
  step      : Nat
  count     : Nat
  buffer    : List Int
  ring      : List Int
  peak      : Option Int
  repeaks   : Nat
  causes    : SuspendCauses
  from_     : SuspendedFrom
  timer     : Timer
  history   : List ProbeEntry
  deriving DecidableEq, Repr

/-- The search after either reset, with the s0 of the search record as it stands (R126). DESIGN CHOICE
(log 28): purpose BASE, no probe goal and suspended from PROBING, which no rule states. -/
def SearchRun.start (s0 : Nat) : SearchRun :=
  { state := .idle, reason := .none, purpose := .base, centre := none, best := none, bestLevel := none,
    probeGoal := none, turn := .pan, positive := true, failed := 0, gain := false, noGain := 0, step := s0,
    count := 0, buffer := [], ring := [], peak := none, repeaks := 0, causes := .empty, from_ := .probing,
    timer := none, history := [] }

/-- The sequencer (R127). -/
structure SequencerRun where
  state       : SequenceState
  lastName    : SequenceName
  lastOutcome : Ending
  lastReason  : SequenceReason
  timer       : Timer
  deriving DecidableEq, Repr

/-- The sequencer after either reset (R140). -/
def SequencerRun.start : SequencerRun :=
  { state := .idle, lastName := .none, lastOutcome := .none, lastReason := .none, timer := none }

/-- A frame (R143). Its two header words and its check word are formed from it when it is sent. -/
structure Frame where
  dst     : Node
  src     : Node
  prio    : Fin 8
  kind    : Kind
  payload : List Word
  deriving DecidableEq, Repr

/-- How a frame came into a queue: the part's own, forwarded, or a mirrored copy (R152). -/
inductive Origin where
  | own | forwarded | mirrored
  deriving DecidableEq, Repr

/-- What waits in the port C queue: a frame, or a STATUS, which enters without contents (R172). -/
inductive CBody where
  | frame (f : Frame)
  | status
  deriving DecidableEq, Repr

/-- A waiting entry of the port C queue (R170). -/
structure CEntry where
  origin : Origin
  body   : CBody
  deriving DecidableEq, Repr

/-- A waiting entry of the port D queue: the DEMAND of an axis, or forwarded NODE_DATA (R169). -/
inductive DEntry where
  | demand (x : Axis) (f : Frame)
  | data (f : Frame)
  deriving DecidableEq, Repr

/-- A frame in transmission, and the time until its completion, in µs (R146). -/
structure Transmission where
  frame : Frame
  left  : Nat
  deriving DecidableEq, Repr

/-- The ten counters of a port (R164). -/
structure Counters where
  received       : Nat
  sent           : Nat
  badForm        : Nat
  portClosed     : Nat
  unknownSource  : Nat
  wrongPort      : Nat
  kindNotAllowed : Nat
  overRate       : Nat
  unknownDest    : Nat
  queueFull      : Nat
  deriving DecidableEq, Repr

/-- All ten counters at 0 (R168). -/
def Counters.zero : Counters :=
  { received := 0, sent := 0, badForm := 0, portClosed := 0, unknownSource := 0, wrongPort := 0,
    kindNotAllowed := 0, overRate := 0, unknownDest := 0, queueFull := 0 }

/-- A drop record: reason, port, source node and kind code (R166). -/
structure DropRecord where
  reason : DropReason
  port   : Port
  source : Node
  kind   : Nat
  deriving DecidableEq, Repr

/-- The queues, the ports' transmissions, the counters, the drop records and the events-seen set. -/
structure Output where
  urgent      : List CEntry
  routine     : List CEntry
  driveQueue  : List DEntry
  sensorQueue : List Frame
  tx          : PerPort (Option Transmission)
  counters    : PerPort Counters
  dropA       : Option DropRecord
  dropB       : Option DropRecord
  seen        : BitVec 6
  statusTimer : Timer
  deriving DecidableEq, Repr

/-- The output side after either reset (R168, R177, R180, R181); the status timer has one status period,
in units of 10 ms (R184). -/
def Output.start (period : Nat) : Output :=
  { urgent := [], routine := [], driveQueue := [], sensorQueue := [], tx := ⟨none, none, none⟩,
    counters := ⟨.zero, .zero, .zero⟩, dropA := none, dropB := none, seen := 0,
    statusTimer := some (period * 10000) }

/-- The axes and their clients, the output side, and the line sets that have been formed and wait to be
written into LINES, oldest first, each as an arrival of its own (R23, R48). -/
structure Acting where
  axes       : PerAxis AxisRun
  pointing   : PointingRun
  search     : SearchRun
  seq        : SequencerRun
  out        : Output
  lineWrites : List Int
  deriving DecidableEq, Repr

/-- The acting side after either reset: R92, R105, R126, R140, R177. -/
def Acting.start (s0 period : Nat) : Acting :=
  { axes := ⟨.start, .start, .start⟩, pointing := .start, search := .start s0, seq := .start, out := .start period,
    lineWrites := [] }

/-! ### The state -/

/-- The part. -/
structure Part where
  tab : Tables
  sen : Sensed
  act : Acting
  deriving DecidableEq, Repr

/-- The part, and the commands that wait, first in first out. -/
structure State where
  part    : Part
  pending : List Instr
  deriving DecidableEq, Repr

/-- Reasons to stop with a fault. There is none: every command has an effect in every state, and what
the manual calls a fault (an axis FAULT, R89; a FAILED search, R124) is a state of the part. Safe. -/
inductive Fault where
  deriving DecidableEq, Repr

/-- Reasons to refuse a command. -/
inductive Refusal where
  /-- Raised by an arm of exec that has no meaning yet; no arm is left so. Safe: the machine stops. -/
  | notModelled (mnemonic : String)
  deriving DecidableEq, Repr

/-! ### Reset -/

/-- The quantity entries after a power-on reset (R2), with bound source 31. Entry 11 is fixed (R3) and is
read through `Tables.quantity`. -/
def QuantityEntry.defaults : Vector QuantityEntry 24 :=
  #v[⟨0, 15500, 50, 31⟩, ⟨-20500, 20500, 50, 31⟩, ⟨-2000, 9000, 50, 31⟩, ⟨0, 35999, 200, 31⟩,
     ⟨-1500, 1500, 50, 31⟩, ⟨-1500, 1500, 50, 31⟩, ⟨0, 600, 100, 31⟩, ⟨0, 600, 100, 31⟩,
     ⟨0, 1000, 50, 31⟩, ⟨0, 3000, 50, 31⟩, ⟨0, 1000, 100, 31⟩, ⟨0, 255, 0, 31⟩,
     ⟨-32767, 32767, 100, 31⟩, ⟨-32767, 32767, 100, 31⟩, ⟨-32767, 32767, 100, 31⟩, ⟨-32767, 32767, 100, 31⟩,
     ⟨-32767, 32767, 100, 31⟩, ⟨-32767, 32767, 100, 31⟩, ⟨-32767, 32767, 100, 31⟩, ⟨-32767, 32767, 100, 31⟩,
     ⟨-32767, 32767, 100, 31⟩, ⟨-32767, 32767, 100, 31⟩, ⟨-32767, 32767, 100, 31⟩, ⟨-32767, 32767, 100, 31⟩]

/-- Every table at its power-on default: R2, R19, R58, R60, R61, R93, R96, R106, R154, R155, R184. -/
def Tables.default (straps : BitVec 2) : Tables :=
  { straps := straps
    nodes := (Vector.replicate 32 NodeEntry.absent).set 1 NodeEntry.maintenance
    quantities := QuantityEntry.defaults
    ruleA := Vector.replicate 48 Rule.empty
    ruleB := Vector.replicate 48 Rule.empty
    active := .a
    lines := (Vector.replicate 8 LineRecord.plain).set 0 LineRecord.estop
    motion := ⟨.default, .default, .default⟩
    guard := ⟨.default 8 0, .default 9 0, .default 10 (-1500)⟩
    presets := Vector.replicate 16 PresetRecord.empty
    pointing := .default
    search := .default
    report := .default
    ports := ⟨.default, .default, .default⟩ }

/-- DESIGN CHOICE (log 1): the line pins of `State.reset`: L0 low, the stop loop closed (R24), and every
other pin high, held by its pull-up (R22). Unsafe. -/
def State.resetPins : BitVec 8 := 0xFE

/-- What the part senses after a power-on reset: R17, R33, R58, R168, R178, with the first line set
formed from `State.resetPins`. -/
def Sensed.reset : Sensed :=
  { mode := .unconfigured
    held := false
    pins := State.resetPins
    image := (Vector.replicate 24 QuantityRun.start).set 11 (QuantityRun.linesStart 254)
    filters := (Vector.replicate 8 (some { level := true, run := 0 })).set 0 (some { level := false, run := 0 })
    testOn := false
    testOff := false
    groups := []
    permit := 0
    meters := (Vector.replicate 32 0).set 1 16000
    sampleTimer := some Config.samplePeriod
    refillTimer := some Config.refillPeriod }

/-- The machine right after a power-on reset (R180): every table at its default, every runtime state at
its start, mode UNCONFIGURED, nothing waiting. DESIGN CHOICE (log 1): both straps low, so the own node
number is 24, and the line pins are `State.resetPins`. Unsafe. -/
def State.reset : State :=
  { part := { tab := Tables.default 0, sen := Sensed.reset, act := Acting.start 50 100 }
    pending := [] }

end Sys2Proof.Machine
end

