-- ==== Sys2Proof/Machine/Codes.lean ====
section
/-! DEFINITION. The codes of R149 and R150, and the frame on the wire (R143, R144): its header words,
its check word, and the reading of received words back into a frame (R145). -/

namespace Sys2Proof.Machine

/-! ### Codes -/

/-- R149, frame kinds. -/
def kindCode : Kind → Nat
  | .sample => 0x01 | .driveStatus => 0x02 | .demand => 0x03 | .nodeData => 0x04
  | .aim => 0x10 | .goto => 0x11 | .jog => 0x12 | .stop => 0x13 | .stow => 0x14
  | .searchStart => 0x15 | .searchEnd => 0x16 | .clear => 0x17
  | .start => 0x20 | .reset => 0x21 | .tableWrite => 0x22 | .tableRead => 0x23 | .bankSwap => 0x24
  | .readStatus => 0x25 | .readCounters => 0x26 | .readDrops => 0x27 | .linesSet => 0x28 | .lampTest => 0x29
  | .status => 0x30 | .reply => 0x31 | .event => 0x32

/-- R149: the kind a code names, if any. -/
def kindOf : Nat → Option Kind
  | 0x01 => some .sample | 0x02 => some .driveStatus | 0x03 => some .demand | 0x04 => some .nodeData
  | 0x10 => some .aim | 0x11 => some .goto | 0x12 => some .jog | 0x13 => some .stop | 0x14 => some .stow
  | 0x15 => some .searchStart | 0x16 => some .searchEnd | 0x17 => some .clear
  | 0x20 => some .start | 0x21 => some .reset | 0x22 => some .tableWrite | 0x23 => some .tableRead
  | 0x24 => some .bankSwap | 0x25 => some .readStatus | 0x26 => some .readCounters | 0x27 => some .readDrops
  | 0x28 => some .linesSet | 0x29 => some .lampTest
  | 0x30 => some .status | 0x31 => some .reply | 0x32 => some .event
  | _ => none

/-- R149, results. -/
def resultCode : Result → Nat
  | .done => 0 | .noChange => 1 | .clamped => 2 | .partialDone => 3 | .notStarted => 4 | .noRights => 5
  | .busyOwner => 6 | .stowActive => 7 | .outOfTravel => 8 | .noHeading => 9 | .noPosition => 10 | .noLevel => 11
  | .inhibited => 12 | .emptyPreset => 13 | .axisFault => 14 | .stillFaulted => 15 | .driveNotReady => 16
  | .inUse => 17 | .badTable => 18 | .badIndex => 19 | .badValue => 20 | .activeBank => 21 | .emptyRules => 22
  | .fixedLine => 23 | .selfCutoff => 24 | .axisLimits => 25 | .noDrive => 26 | .estopActive => 27

/-- R150: no 0, yes 1. -/
def boolCode (b : Bool) : Int := if b then 1 else 0

def quantityStateCode : QuantityState → Int
  | .never => 0 | .fresh => 1 | .stale => 2

def lineFunctionCode : LineFunction → Int
  | .estop => 0 | .input => 1 | .output => 2 | .mastLamp => 3 | .beacon => 4 | .groupLamp => 5

def lineFunctionOf : Int → Option LineFunction
  | 0 => some .estop | 1 => some .input | 2 => some .output | 3 => some .mastLamp | 4 => some .beacon
  | 5 => some .groupLamp | _ => none

def conditionCode : Condition → Int
  | .gt => 0 | .ge => 1 | .lt => 2 | .le => 3 | .eq => 4 | .ne => 5 | .anySet => 6 | .allClear => 7 | .stale => 8
  | .always => 9

def conditionOf : Int → Option Condition
  | 0 => some .gt | 1 => some .ge | 2 => some .lt | 3 => some .le | 4 => some .eq | 5 => some .ne | 6 => some .anySet
  | 7 => some .allClear | 8 => some .stale | 9 => some .always | _ => none

def joinCode : Join → Int
  | .alone => 0 | .andNext => 1

def joinOf : Int → Option Join
  | 0 => some .alone | 1 => some .andNext | _ => none

def actionCode : Action → Int
  | .none => 0 | .stopAll => 1 | .stow => 2 | .lower => 3

def actionOf : Int → Option Action
  | 0 => some .none | 1 => some .stopAll | 2 => some .stow | 3 => some .lower | _ => none

/-- R150, group state; 0 is NONE, for a rule that lies in no group of the active bank. -/
def groupStateCode : GroupState → Int
  | .clear => 1 | .asserted => 2 | .presumed => 3

def axisCode : Axis → Int
  | .mast => 0 | .pan => 1 | .tilt => 2

def axisOf : Int → Option Axis
  | 0 => some .mast | 1 => some .pan | 2 => some .tilt | _ => none

/-- The axes in the order in which a frame or table lists them. -/
def axisList : List Axis := [.mast, .pan, .tilt]

def axisStateCode : AxisState → Int
  | .stopped => 0 | .moving => 1 | .atGoal => 2 | .held => 3 | .jogging => 4 | .stopping => 5 | .fault => 6

def ownerCode : Owner → Int
  | .none => 0 | .search => 1 | .aim => 2 | .jog => 3 | .safety => 4

def faultCauseCode : FaultCause → Int
  | .none => 0 | .positionLost => 1 | .driveSilent => 2 | .driveFault => 3 | .driveDropped => 4 | .stall => 5

def driveStateCode : DriveState → Int
  | .ready => 0 | .notReady => 1 | .fault => 2

def driveStateOf : Int → Option DriveState
  | 0 => some .ready | 1 => some .notReady | 2 => some .fault | _ => none

def searchStateCode : SearchState → Int
  | .idle => 0 | .probing => 1 | .peaked => 2 | .suspended => 3 | .failed => 4

def failureReasonCode : FailureReason → Int
  | .none => 0 | .probeLimit => 1 | .noSignal => 2 | .axisFault => 3 | .suspendLimit => 4

def sequenceStateCode : SequenceState → Int
  | .idle => 0 | .stowTilt => 1 | .stowPan => 2 | .stowMast => 3 | .lowering => 4

def sequenceNameCode : SequenceName → Int
  | .none => 0 | .stow => 1 | .lower => 2

def endingCode : Ending → Int
  | .none => 0 | .done => 1 | .aborted => 2 | .failed => 3 | .refused => 4 | .ended => 5

def sequenceReasonCode : SequenceReason → Int
  | .none => 0 | .phaseTimeout => 1 | .axisFault => 2 | .driveNotReady => 3

def modeCode : Mode → Int
  | .unconfigured => 0 | .operating => 1

def bankCode : Bank → Int
  | .a => 0 | .b => 1

def bankOf : Int → Option Bank
  | 0 => some .a | 1 => some .b | _ => none

def portCode : Port → Int
  | .c => 0 | .s => 1 | .d => 2

def portOf : Int → Option Port
  | 0 => some .c | 1 => some .s | 2 => some .d | _ => none

def portStateCode : PortState → Int
  | .opened => 0 | .listen => 1 | .closed => 2

def portStateOf : Int → Option PortState
  | 0 => some .opened | 1 => some .listen | 2 => some .closed | _ => none

def roleCode : Role → Int
  | .maint => 0 | .console => 1 | .observer => 2 | .sensor => 3 | .drive => 4

def roleOf : Int → Option Role
  | 0 => some .maint | 1 => some .console | 2 => some .observer | 3 => some .sensor | 4 => some .drive | _ => none

def eventCode : EventKind → Nat
  | .groupChange => 1 | .axisFault => 2 | .searchEnd => 3 | .sequenceEnd => 4 | .estopChange => 5 | .dropRecorded => 6

/-- R150: in a set, event kind k is bit k - 1. -/
def eventBit (k : EventKind) : BitVec 6 := BitVec.twoPow 6 (eventCode k - 1)

def dropReasonCode : DropReason → Int
  | .badForm => 1 | .portClosed => 2 | .unknownSource => 3 | .wrongPort => 4 | .kindNotAllowed => 5 | .overRate => 6
  | .unknownDest => 7 | .queueFull => 8

/-- R150, the place of each member in the permit set and in inhibits. -/
def directionIndex : Direction → Nat
  | .mastUp => 0 | .mastDown => 1 | .panCw => 2 | .panCcw => 3 | .tiltUp => 4 | .tiltDown => 5 | .track => 6

/-- Membership in a set of directions. -/
def hasDirection (set : BitVec 7) (d : Direction) : Bool := set.getLsbD (directionIndex d)

/-- R150: axis rights, bit 0 MAST, bit 1 PAN, bit 2 TILT. -/
def hasRight (rights : BitVec 3) : Axis → Bool
  | .mast => rights.getLsbD 0
  | .pan => rights.getLsbD 1
  | .tilt => rights.getLsbD 2

/-! ### The frame on the wire -/

/-- R143, word 0: destination in bits 15..11, source in 10..6, priority in 5..3, zero in 2..0. -/
def headerWord0 (f : Frame) : Word := BitVec.ofNat 16 (f.dst.val * 2048 + f.src.val * 64 + f.prio.val * 8)

/-- R143, word 1: kind code in bits 15..8, payload length in 7..4, zero in 3..0. -/
def headerWord1 (f : Frame) : Word := BitVec.ofNat 16 (kindCode f.kind * 256 + f.payload.length * 16)

/-- R144: the ones' complement of the sum, modulo 65536, of the words. -/
def checkWord (ws : List Word) : Word := ~~~(ws.foldl (· + ·) 0)

/-- R143: the words of a frame as they are sent, check word last. -/
def wireWords (f : Frame) : List Word :=
  let body := headerWord0 f :: headerWord1 f :: f.payload
  body ++ [checkWord body]

/-- The source field of word 0 as received (R166). DESIGN CHOICE (log 30): 0 when no word came. -/
def receivedSource (ws : List Word) : Node :=
  match ws with
  | w :: _ => Fin.ofNat 32 (w.toNat / 64)
  | [] => 0

/-- The kind code of word 1 as received, or 0 when the frame had fewer than two words (R166). -/
def receivedKind (ws : List Word) : Nat :=
  match ws with
  | _ :: w :: _ => w.toNat / 256
  | _ => 0

/-- R145, the checks made on the words themselves: every stop bit, the word count against the stated
length (which is not 15), the zero fields, the kind code and the check word. -/
def readWords (framing : Bool) (ws : List Word) : Option Frame :=
  match ws with
  | w0 :: w1 :: rest =>
    let stated := w1.toNat / 16 % 16
    if framing && decide (rest.length = stated + 1) && decide (stated ≠ 15)
        && decide (w0.toNat % 8 = 0) && decide (w1.toNat % 16 = 0)
        && decide (rest.getLast? = some (checkWord (w0 :: w1 :: rest.dropLast))) then
      (kindOf (w1.toNat / 256)).map fun k =>
        { dst := Fin.ofNat 32 (w0.toNat / 2048), src := Fin.ofNat 32 (w0.toNat / 64),
          prio := Fin.ofNat 8 (w0.toNat / 8), kind := k, payload := rest.dropLast }
    else none
  | _ => none

/-- R145: the pairs of a SAMPLE, each naming an id other than 11 and below 24. -/
def samplePairsOk : List Word → Bool
  | [] => true
  | [_] => false
  | q :: _ :: rest => decide (0 ≤ q.toInt) && decide (q.toInt < 24) && decide (q.toInt ≠ 11) && samplePairsOk rest

/-- R145, the checks made on the fields: source, payload length, and the payloads of SAMPLE,
DRIVE_STATUS and DEMAND. -/
def formOk (own : Node) (f : Frame) : Bool :=
  decide (f.payload.length ≤ Config.maxPayload) && decide (f.src.val ≠ 31) && decide (f.src ≠ own) &&
  match f.kind, f.payload with
  | .sample, ws => decide (ws ≠ []) && samplePairsOk ws
  | .driveStatus, [s, _] => (driveStateOf s.toInt).isSome
  | .driveStatus, _ => false
  | .demand, ws => decide (ws.length = 1)
  | _, _ => true

/-- R146: a frame of n words occupies the out-pair for 18 × (n + 4) µs. -/
def frameTime (f : Frame) : Nat := Config.wordTime * (f.payload.length + 3 + Config.idleWords)

end Sys2Proof.Machine
end

