-- ==== Sys2Proof/Machine/Flags.lean ====
section
/-! DEFINITION. What the blocks read: the accessors of the tables and of the sensor image (every register
read goes through one of these), and the values the part forms from them: ESTOP, stow windows, line
levels, the line set, the permit set, a rule's predicate, and the words of STATUS. -/

namespace Sys2Proof.Machine

/-! ### Tables -/

/-- The own node number: 24 + 2 × (strap 1) + (strap 0) (R141). -/
def Tables.own (t : Tables) : Node := Fin.ofNat 32 (24 + t.straps.toNat)

/-- R155: entry 31 and the entry of the own number are fixed. -/
def Tables.node (t : Tables) (n : Node) : NodeEntry :=
  if n.val = 31 ∨ n = t.own then NodeEntry.fixed else t.nodes[n]

/-- R3: the entry of LINES is fixed: 0, 255, no age, bound to the own number. -/
def Tables.quantity (t : Tables) (q : Fin 24) : QuantityEntry :=
  if q = 11 then { lo := 0, hi := 255, maxAge := 0, source := t.own } else t.quantities[q]

/-- R19: L0 is fixed. -/
def Tables.line (t : Tables) (k : Fin 8) : LineRecord :=
  if k = 0 then LineRecord.estop else t.lines[k]

/-- The records of a bank (R35). -/
def Tables.bank (t : Tables) : Bank → Vector Rule 48
  | .a => t.ruleA
  | .b => t.ruleB

/-- The rules of the active bank, in order. -/
def Tables.activeRules (t : Tables) : List Rule := (t.bank t.active).toList

/-- R35: an empty bank. -/
def Tables.bankEmpty (t : Tables) (which : Bank) : Bool := (t.bank which).toList.all fun r => !r.used

/-- R155: the axis rights of a node, as its entry stands; a node not present has none (R110). -/
def Tables.mayMove (t : Tables) (n : Node) (x : Axis) : Bool :=
  (t.node n).present && hasRight (t.node n).rights x

/-- Is the line one the part reads (ESTOP, INPUT) and not one it drives (R19)? -/
def isInputFunction : LineFunction → Bool
  | .estop => true
  | .input => true
  | .output => false
  | .mastLamp => false
  | .beacon => false
  | .groupLamp => false

/-- The filter time in ms (R19). -/
def filterTime (f : Fin 4) : Nat := [0, 4, 16, 64].getD f.val 0

/-! ### The sensor image (R16) -/

/-- A quantity is fresh when its state is FRESH (R1). -/
def Sensed.fresh (s : Sensed) (q : Fin 24) : Bool := decide ((s.image[q]).state = .fresh)

/-- The held value, in every state (R16). -/
def Sensed.value (s : Sensed) (q : Fin 24) : Int := (s.image[q]).value

/-- The position quantity of an axis (R60). -/
def positionOf : Axis → Fin 24
  | .mast => 0
  | .pan => 1
  | .tilt => 2

/-- The age remaining of a quantity in units of 10 ms, 0 when no age timer runs (R1, R9). -/
def QuantityRun.ageRemaining (r : QuantityRun) : Nat :=
  match r.age with
  | some us => (us + 9999) / 10000
  | none => 0

/-- R24: ESTOP is asserted while the level of L0 is 1. -/
def Sensed.estop (s : Sensed) : Bool :=
  match s.filters[(0 : Fin 8)] with
  | some f => f.level
  | none => false

/-! ### What a block is handed to read -/

/-- The tables and what the part senses: what the acting blocks read and do not change. -/
structure Ctx where
  tab : Tables
  sen : Sensed
  deriving DecidableEq, Repr

/-- The reader's view of a part. -/
def Part.ctx (p : Part) : Ctx := { tab := p.tab, sen := p.sen }

/-- Does the mode let the axes move (R178)? -/
def Ctx.operating (c : Ctx) : Bool := decide (c.sen.mode = .operating)

/-- Position of an axis, and whether it is fresh. -/
def Ctx.pos (c : Ctx) (x : Axis) : Int := c.sen.value (positionOf x)
def Ctx.posFresh (c : Ctx) (x : Axis) : Bool := c.sen.fresh (positionOf x)

/-- A position word: the value while FRESH, the absent marker otherwise (R16). -/
def Ctx.posWord (c : Ctx) (x : Axis) : Int := if c.posFresh x then c.pos x else absentMarker

/-- R61: within its stow window. -/
def Ctx.inStow (c : Ctx) (x : Axis) : Bool :=
  let g := c.tab.guard.get x
  c.posFresh x && decide (-(g.stowTol : Int) ≤ c.pos x - g.stowPos) && decide (c.pos x - g.stowPos ≤ g.stowTol)

/-- R74, third test: MAST_HEIGHT is at or below the clear height, and pan and tilt are not both within
their stow windows. -/
def Ctx.guardBlocks (c : Ctx) : Bool :=
  decide (c.pos .mast ≤ c.tab.pointing.clearHeight) && !(c.inStow .pan && c.inStow .tilt)

/-! ### Rules and groups -/

/-- R40, R41: the predicate of one rule. The mask tests take value and threshold as 16-bit patterns. -/
def Rule.holds (r : Rule) (s : Sensed) : Bool :=
  let v := s.value r.operand
  let mask := Word.ofInt v &&& Word.ofInt r.threshold
  match r.condition with
  | .stale => !s.fresh r.operand
  | .always => true
  | .gt => !s.fresh r.operand || decide (v > r.threshold)
  | .ge => !s.fresh r.operand || decide (v ≥ r.threshold)
  | .lt => !s.fresh r.operand || decide (v < r.threshold)
  | .le => !s.fresh r.operand || decide (v ≤ r.threshold)
  | .eq => !s.fresh r.operand || decide (v = r.threshold)
  | .ne => !s.fresh r.operand || decide (v ≠ r.threshold)
  | .anySet => !s.fresh r.operand || decide (mask ≠ 0)
  | .allClear => !s.fresh r.operand || decide (mask = 0)

/-- The members of a group among the rules of its bank (R39). -/
def Group.members (g : Group) (rules : List Rule) : List Rule := (rules.drop g.first).take (g.last + 1 - g.first)

/-- The last rule, which governs the group (R39). -/
def Group.lastRule (g : Group) (rules : List Rule) : Rule := rules.getD g.last Rule.empty

/-- R42: the predicate of a group. -/
def Group.holds (g : Group) (rules : List Rule) (s : Sensed) : Bool := (g.members rules).all fun r => r.holds s

/-- R43: does the group use the quantity? -/
def Group.uses (g : Group) (rules : List Rule) (q : Fin 24) : Bool :=
  (g.members rules).any fun r => decide (r.operand = q)

/-- R45: a group in ASSERTED or PRESUMED applies its inhibits. -/
def Group.inForce (g : Group) : Bool := decide (g.state ≠ .clear)

/-- The group that contains a rule, if any (R38, R29). -/
def Sensed.groupOf (s : Sensed) (rule : Nat) : Option Group :=
  s.groups.find? fun g => decide (g.first ≤ rule) && decide (rule ≤ g.last)

/-- R39: the groups of a bank, each PRESUMED with both counters 0 (R57, R59). `start` is the first rule of
the run that is open at rule `i`. -/
def formGroupsFrom (i : Nat) (start : Option Nat) : List Rule → List Group
  | [] =>
    match start with
    | some f => [⟨f, i - 1, .presumed, 0, 0⟩]
    | none => []
  | r :: rest =>
    if r.used then
      let f := start.getD i
      match r.join with
      | .andNext => formGroupsFrom (i + 1) (some f) rest
      | .alone => ⟨f, i, .presumed, 0, 0⟩ :: formGroupsFrom (i + 1) none rest
    else
      match start with
      | some f => ⟨f, i - 1, .presumed, 0, 0⟩ :: formGroupsFrom (i + 1) none rest
      | none => formGroupsFrom (i + 1) none rest

/-- R39, R57: the groups of the active bank as they start. -/
def Tables.startGroups (t : Tables) : List Group := formGroupsFrom 0 none t.activeRules

/-- The union of the inhibits of every group in force (R45). -/
def inhibited (rules : List Rule) (groups : List Group) : BitVec 7 :=
  groups.foldl (fun acc g => if g.inForce then acc ||| (g.lastRule rules).inhibits else acc) 0

/-- R54: the permit set. -/
def Ctx.permitSet (c : Ctx) : BitVec 7 :=
  if c.operating && !c.sen.estop then ~~~(inhibited c.tab.activeRules c.sen.groups) else 0

/-! ### Line levels (R25 to R29) -/

/-- R27, with the sum formed without overflow. -/
def Ctx.mastLampOn (c : Ctx) : Bool :=
  !c.posFresh .mast || decide (c.pos .mast > c.tab.guard.mast.stowPos + c.tab.guard.mast.stowTol)

/-- R28: does an axis in this state light the beacon? -/
def AxisState.movesDish : AxisState → Bool
  | .moving => true
  | .jogging => true
  | .stopping => true
  | .stopped => false
  | .atGoal => false
  | .held => false
  | .fault => false

/-- R28. -/
def beaconOn (a : Acting) : Bool := axisList.any fun x => (a.axes.get x).state.movesDish

/-- R29. -/
def Sensed.groupLampOn (s : Sensed) (rule : Nat) : Bool :=
  match s.groupOf rule with
  | some g => g.inForce
  | none => false

/-- R25: a lamp-test flag overrides the condition of an indicator, test-on first. -/
def Sensed.lampLevel (s : Sensed) (condition : Bool) : Bool :=
  if s.testOn then true else if s.testOff then false else condition

/-- R23, R25: the level of a line: the filtered level of an input, the driven level of an output. -/
def Part.lineLevel (p : Part) (k : Fin 8) : Bool :=
  let r := p.tab.line k
  match r.function with
  | .estop | .input =>
    match p.sen.filters[k] with
    | some f => f.level
    | none => false
  | .output => decide (r.value = 1)
  | .mastLamp => p.sen.lampLevel p.ctx.mastLampOn
  | .beacon => p.sen.lampLevel (beaconOn p.act)
  | .groupLamp => p.sen.lampLevel (p.sen.groupLampOn r.value)

/-- R25: how the pin of an output line stands: its level, inverted when invert is yes. -/
def Part.pinDriven (p : Part) (k : Fin 8) : Bool := xor (p.lineLevel k) (p.tab.line k).invert

/-- R23: the number in which line Lk contributes 2 to the power k. -/
def lineNumber (level : Fin 8 → Bool) : Int :=
  (List.finRange 8).foldl (fun n k => if level k then n + (2 ^ k.val : Nat) else n) 0

/-- The line set as the levels now form it (R23). -/
def Part.lineSet (p : Part) : Int := lineNumber p.lineLevel

/-- The line set as it stands in LINES (R3). -/
def Sensed.lines (s : Sensed) : Int := s.value 11

/-- The level of one line as it stands in LINES (R32). -/
def Sensed.lineBit (s : Sensed) (k : Fin 8) : Bool := (Word.ofInt s.lines).getLsbD k.val

/-- The line set as last formed: the last one that waits to be written, or LINES when none does. -/
def Acting.lastLines (c : Ctx) (a : Acting) : Int := a.lineWrites.getLastD c.sen.lines

/-- R23: an event has changed line levels: the line set is formed, and when it differs from the one formed
last it waits to be written into LINES as one arrival. -/
def Acting.formLines (c : Ctx) (a : Acting) : Acting :=
  let v := Part.lineSet { tab := c.tab, sen := c.sen, act := a }
  if v = a.lastLines c then a else { a with lineWrites := a.lineWrites ++ [v] }

/-- R23: the line set is formed after an event of the tables or the image. -/
def Part.formLines (p : Part) : Part := { p with act := p.act.formLines p.ctx }

/-! ### STATUS (R148) -/

/-- The twelve words of a STATUS, with word 11, the events-seen set, left 0: it is taken from the output
side when the transmission begins. -/
def statusWords (c : Ctx) (a : Acting) : List Word :=
  [ Word.ofInt (modeCode c.sen.mode + 2 * bankCode c.tab.active + 4 * boolCode c.sen.estop)
  , c.sen.permit.setWidth 16
  , Word.ofInt c.sen.lines
  , Word.ofInt (c.posWord .mast)
  , Word.ofInt (c.posWord .pan)
  , Word.ofInt (c.posWord .tilt)
  , Word.ofInt (axisStateCode a.axes.mast.state + 16 * axisStateCode a.axes.pan.state + 256 * axisStateCode a.axes.tilt.state)
  , Word.ofInt (ownerCode a.axes.mast.owner + 16 * ownerCode a.axes.pan.owner + 256 * ownerCode a.axes.tilt.owner)
  , Word.ofInt (256 * searchStateCode a.search.state + failureReasonCode a.search.reason)
  , Word.ofInt (sequenceStateCode a.seq.state + 16 * sequenceNameCode a.seq.lastName + 256 * endingCode a.seq.lastOutcome
      + 4096 * sequenceReasonCode a.seq.lastReason)
  , 0
  , Word.ofInt (absentOr (if a.search.state = .peaked then a.search.peak else a.search.bestLevel)) ]

end Sys2Proof.Machine
end

