-- ==== Sys2Proof/Machine/Ops.lean ====
section
/-! DEFINITION. The named operations over the output side: counters and drop records (R164, R166), the
three queues (R169 to R173), transmission (R174), events (R186), STATUS requests (R172) and replies
(R148). Every frame the part sends is placed through one of these. `v` are the STATUS words as they
stand (R146), which a STATUS takes when its transmission begins. -/

namespace Sys2Proof.Machine

/-! ### Counters and drop records -/

/-- R164: a counter stops at its maximum. -/
def bumpTo (limit n : Nat) : Nat := if n < limit then n + 1 else n

/-- The drop counter of a reason goes up (R164). -/
def Counters.bump (k : Counters) : DropReason → Counters
  | .badForm => { k with badForm := bumpTo Config.counterMax k.badForm }
  | .portClosed => { k with portClosed := bumpTo Config.counterMax k.portClosed }
  | .unknownSource => { k with unknownSource := bumpTo Config.counterMax k.unknownSource }
  | .wrongPort => { k with wrongPort := bumpTo Config.counterMax k.wrongPort }
  | .kindNotAllowed => { k with kindNotAllowed := bumpTo Config.counterMax k.kindNotAllowed }
  | .overRate => { k with overRate := bumpTo Config.counterMax k.overRate }
  | .unknownDest => { k with unknownDest := bumpTo Config.counterMax k.unknownDest }
  | .queueFull => { k with queueFull := bumpTo Config.counterMax k.queueFull }

/-- The ten counters in the order of R148. -/
def Counters.words (k : Counters) : List Word :=
  [k.received, k.sent, k.badForm, k.portClosed, k.unknownSource, k.wrongPort, k.kindNotAllowed, k.overRate,
   k.unknownDest, k.queueFull].map (BitVec.ofNat 16)

/-- R158: an arrival is counted as received. -/
def Output.countReceived (p : Port) (o : Output) : Output :=
  let k := o.counters.get p
  { o with counters := o.counters.set p { k with received := bumpTo Config.counterMax k.received } }

/-- R164: a completed transmission is counted as sent. -/
def Output.countSent (p : Port) (o : Output) : Output :=
  let k := o.counters.get p
  { o with counters := o.counters.set p { k with sent := bumpTo Config.counterMax k.sent } }

/-- R164, R166: a drop is counted on its port, and fills record A if it is empty, else B if it is empty. -/
def Output.noteDrop (d : DropRecord) (o : Output) : Output :=
  let o := { o with counters := o.counters.set d.port ((o.counters.get d.port).bump d.reason) }
  if o.dropA.isNone then { o with dropA := some d }
  else if o.dropB.isNone then { o with dropB := some d }
  else o

/-- R166: the four words of a drop record; an empty one reads reason NONE and three words of 0 (R167). -/
def dropWords : Option DropRecord → List Word
  | some d => [Word.ofInt (dropReasonCode d.reason), Word.ofInt (portCode d.port), BitVec.ofNat 16 d.source.val,
      BitVec.ofNat 16 d.kind]
  | none => [0, 0, 0, 0]

/-- The drop of a frame. -/
def dropOf (reason : DropReason) (p : Port) (f : Frame) : DropRecord :=
  { reason := reason, port := p, source := f.src, kind := kindCode f.kind }

/-! ### Frames of the part's own (R144, R148) -/

def replyFrame (t : Tables) (dst : Node) (k : Kind) (r : Result) (data : List Word) : Frame :=
  { dst := dst, src := t.own, prio := 7, kind := .reply,
    payload := BitVec.ofNat 16 (kindCode k * 256 + resultCode r) :: data }

def eventFrame (t : Tables) (k : EventKind) (ws : List Word) : Frame :=
  { dst := 31, src := t.own, prio := 7, kind := .event, payload := BitVec.ofNat 16 (eventCode k) :: ws }

def statusFrame (t : Tables) (ws : List Word) : Frame :=
  { dst := 31, src := t.own, prio := 3, kind := .status, payload := ws }

def demandFrame (t : Tables) (x : Axis) (rate : Int) : Frame :=
  { dst := (t.guard.get x).drive, src := t.own, prio := 6, kind := .demand, payload := [Word.ofInt rate] }

/-- The drop of a waiting port C entry: the part's own frames carry the own number as source (R166). -/
def CEntry.dropAs (t : Tables) (reason : DropReason) (e : CEntry) : DropRecord :=
  match e.body with
  | .frame f => dropOf reason .c f
  | .status => { reason := reason, port := .c, source := t.own, kind := kindCode .status }

/-- The frame of a port D entry. -/
def DEntry.frame : DEntry → Frame
  | .demand _ f => f
  | .data f => f

def DEntry.isDemandOf (x : Axis) : DEntry → Bool
  | .demand y _ => decide (y = x)
  | .data _ => false

def DEntry.isData : DEntry → Bool
  | .demand _ _ => false
  | .data _ => true

def CEntry.isStatus (e : CEntry) : Bool := decide (e.body = .status)

/-! ### Transmission (R146, R174) -/

/-- A frame goes into transmission on a port; its contents are fixed from then on. -/
def Output.transmit (p : Port) (f : Frame) (o : Output) : Output :=
  { o with tx := o.tx.set p (some { frame := f, left := frameTime f }) }

/-- A port C entry begins: a STATUS takes its words at this moment, and the events-seen set is cleared
with it (R172). -/
def Output.transmitC (t : Tables) (v : List Word) (e : CEntry) (o : Output) : Output :=
  match e.body with
  | .frame f => o.transmit .c f
  | .status => { (o.transmit .c (statusFrame t (v.set 10 (o.seen.setWidth 16)))) with seen := 0 }

/-- The port takes its next frame: on port C the oldest URGENT, else the oldest ROUTINE (R170); on ports
D and S the first in the sending order (R169, R173). With none waiting the port stays idle (R174). -/
def Output.takeNext (t : Tables) (v : List Word) (p : Port) (o : Output) : Output :=
  match p with
  | .c =>
    match o.urgent, o.routine with
    | e :: rest, _ => { o with urgent := rest }.transmitC t v e
    | [], e :: rest => { o with routine := rest }.transmitC t v e
    | [], [] => o
  | .d =>
    match o.driveQueue with
    | e :: rest => { o with driveQueue := rest }.transmit .d e.frame
    | [] => o
  | .s =>
    match o.sensorQueue with
    | f :: rest => { o with sensorQueue := rest }.transmit .s f
    | [] => o

/-- R174: an idle port begins at a placement. -/
def Output.startIfIdle (t : Tables) (v : List Word) (p : Port) (o : Output) : Output :=
  if (o.tx.get p).isNone then o.takeNext t v p else o

/-- R174: the transmission of a port completes. -/
def Output.complete (t : Tables) (v : List Word) (p : Port) (o : Output) : Output :=
  if (o.tx.get p).isSome then (({ o with tx := o.tx.set p none }).countSent p).takeNext t v p else o

/-! ### The port C queue (R170, R171) -/

/-- Frames waiting in the port C queue. -/
def Output.waitingC (o : Output) : Nat := o.urgent.length + o.routine.length

/-- R171: the queue after a placement, and the entry that found no place, if any. -/
def Output.insertC (urgent : Bool) (e : CEntry) (o : Output) : Output × Option CEntry :=
  if o.waitingC < Config.placesC then
    if urgent then ({ o with urgent := o.urgent ++ [e] }, none)
    else ({ o with routine := o.routine ++ [e] }, none)
  else if urgent then
    match o.routine.getLast? with
    | some newest => ({ o with urgent := o.urgent ++ [e], routine := o.routine.dropLast }, some newest)
    | none => (o, some e)
  else (o, some e)

/-- A placement whose drop raises no event: that of the DROP_RECORDED frame itself (R166). -/
def Output.placeQuiet (t : Tables) (v : List Word) (urgent : Bool) (e : CEntry) (o : Output) : Output :=
  let r := o.insertC urgent e
  let o := r.1.startIfIdle t v .c
  match r.2 with
  | some lost => o.noteDrop (lost.dropAs t .queueFull)
  | none => o

/-- The kind enters the events-seen set (R186). -/
def Output.see (k : EventKind) (o : Output) : Output := { o with seen := o.seen ||| eventBit k }

/-- R186: is the kind enabled? -/
def Tables.enabled (t : Tables) (k : EventKind) : Bool := decide (t.report.enables &&& eventBit k ≠ 0)

/-- R166: a drop is counted and offered to the records; filling A from empty raises DROP_RECORDED. -/
def Output.drop (t : Tables) (v : List Word) (d : DropRecord) (o : Output) : Output :=
  if o.dropA.isNone then
    let o := (o.noteDrop d).see .dropRecorded
    if t.enabled .dropRecorded then
      o.placeQuiet t v true ⟨.own, .frame (eventFrame t .dropRecorded (dropWords (some d)))⟩
    else o
  else o.noteDrop d

/-- R171: a frame is placed in the port C queue. The frame that finds no place is dropped after the
placement (log 17). -/
def Output.placeC (t : Tables) (v : List Word) (urgent : Bool) (e : CEntry) (o : Output) : Output :=
  let r := o.insertC urgent e
  let o := r.1.startIfIdle t v .c
  match r.2 with
  | some lost => o.drop t v (lost.dropAs t .queueFull)
  | none => o

/-- R186: an event enters the events-seen set and, when its kind is enabled, is placed as an EVENT. -/
def Output.raise (t : Tables) (v : List Word) (k : EventKind) (ws : List Word) (o : Output) : Output :=
  let o := o.see k
  if t.enabled k then o.placeC t v true ⟨.own, .frame (eventFrame t k ws)⟩ else o

/-- R148: a REPLY is placed. -/
def Output.reply (t : Tables) (v : List Word) (dst : Node) (k : Kind) (r : Result) (data : List Word) (o : Output) :
    Output :=
  o.placeC t v true ⟨.own, .frame (replyFrame t dst k r data)⟩

/-- R172: a STATUS request places a STATUS unless one waits. -/
def Output.requestStatus (t : Tables) (v : List Word) (o : Output) : Output :=
  if o.routine.any CEntry.isStatus then o else o.placeC t v false ⟨.own, .status⟩

/-- R153: the class of a frame that is forwarded or mirrored into the port C queue. -/
def Tables.urgentByMask (t : Tables) (f : Frame) : Bool := t.ports.c.mask.getLsbD f.prio.val

/-! ### The port D and port S queues (R169, R173) -/

/-- R169: a DEMAND replaces the waiting DEMAND of its axis in place, or goes to the back. -/
def insertDemand (x : Axis) (f : Frame) (q : List DEntry) : List DEntry :=
  if q.any (DEntry.isDemandOf x) then q.map fun e => if e.isDemandOf x then .demand x f else e
  else q ++ [.demand x f]

/-- An axis's DEMAND is placed; at a CLOSED port it is dropped as PORT_CLOSED (R176). -/
def Output.sendDemand (t : Tables) (v : List Word) (x : Axis) (rate : Int) (o : Output) : Output :=
  let f := demandFrame t x rate
  if t.ports.d.state = .closed then o.drop t v (dropOf .portClosed .d f)
  else ({ o with driveQueue := insertDemand x f o.driveQueue }).startIfIdle t v .d

/-- R71: is the axis's previous DEMAND still waiting? -/
def Output.demandWaits (x : Axis) (o : Output) : Bool := o.driveQueue.any (DEntry.isDemandOf x)

/-- R169: a waiting DEMAND of the axis is removed; this is not a drop. -/
def Output.withdrawDemand (x : Axis) (o : Output) : Output :=
  { o with driveQueue := o.driveQueue.filter fun e => !e.isDemandOf x }

/-- R162, R173: a frame is forwarded into the queue of a port. -/
def Output.forward (t : Tables) (v : List Word) (p : Port) (f : Frame) (o : Output) : Output :=
  match p with
  | .c => o.placeC t v (t.urgentByMask f) ⟨.forwarded, .frame f⟩
  | .d =>
    if (o.driveQueue.filter DEntry.isData).length < Config.placesData then
      ({ o with driveQueue := o.driveQueue ++ [DEntry.data f] }).startIfIdle t v .d
    else o.drop t v (dropOf .queueFull .d f)
  | .s =>
    if o.sensorQueue.length < Config.placesS then
      ({ o with sensorQueue := o.sensorQueue ++ [f] }).startIfIdle t v .s
    else o.drop t v (dropOf .queueFull .s f)

/-- R175: a mirrored copy is placed in the port C queue. -/
def Output.mirror (t : Tables) (v : List Word) (f : Frame) (o : Output) : Output :=
  o.placeC t v (t.urgentByMask f) ⟨.mirrored, .frame f⟩

/-- Several drops, one after the other. -/
def Output.dropAll (t : Tables) (v : List Word) (ds : List DropRecord) (o : Output) : Output :=
  ds.foldl (fun o d => o.drop t v d) o

/-- R152: at a change of port state the waiting frames are judged anew: into CLOSED every one is removed,
into LISTEN every forwarded one and every mirrored copy. Each removed frame is a drop, in sending order
(log 18). -/
def Output.judgeWaiting (t : Tables) (v : List Word) (p : Port) (st : PortState) (o : Output) : Output :=
  match st with
  | .opened => o
  | .listen =>
    match p with
    | .c =>
      let goes := fun e : CEntry => decide (e.origin ≠ .own)
      let lost := (o.urgent ++ o.routine).filter goes
      ({ o with urgent := o.urgent.filter (!goes ·), routine := o.routine.filter (!goes ·) }).dropAll t v
        (lost.map (CEntry.dropAs t .portClosed))
    | .d =>
      let lost := o.driveQueue.filter DEntry.isData
      ({ o with driveQueue := o.driveQueue.filter (!·.isData) }).dropAll t v
        (lost.map fun e : DEntry => dropOf .portClosed .d e.frame)
    | .s =>
      ({ o with sensorQueue := [] }).dropAll t v (o.sensorQueue.map (dropOf .portClosed .s))
  | .closed =>
    match p with
    | .c =>
      ({ o with urgent := [], routine := [] }).dropAll t v
        ((o.urgent ++ o.routine).map (CEntry.dropAs t .portClosed))
    | .d =>
      ({ o with driveQueue := [] }).dropAll t v (o.driveQueue.map fun e : DEntry => dropOf .portClosed .d e.frame)
    | .s =>
      ({ o with sensorQueue := [] }).dropAll t v (o.sensorQueue.map (dropOf .portClosed .s))

/-! ### The output side, from the acting side and from the part -/

/-- An operation of the output side, with the STATUS words as they stand. -/
def Acting.emit (c : Ctx) (f : Tables → List Word → Output → Output) (a : Acting) : Acting :=
  { a with out := f c.tab (statusWords c a) a.out }

def Acting.raise (c : Ctx) (k : EventKind) (ws : List Word) (a : Acting) : Acting :=
  a.emit c fun t v o => o.raise t v k ws

def Acting.requestStatus (c : Ctx) (a : Acting) : Acting :=
  a.emit c fun t v o => o.requestStatus t v

def Acting.reply (c : Ctx) (dst : Node) (k : Kind) (r : Result) (data : List Word) (a : Acting) : Acting :=
  a.emit c fun t v o => o.reply t v dst k r data

/-- An operation of the acting side. -/
def Part.acting (f : Ctx → Acting → Acting) (p : Part) : Part := { p with act := f p.ctx p.act }

def Part.reply (dst : Node) (k : Kind) (r : Result) (data : List Word) (p : Part) : Part :=
  p.acting fun c a => a.reply c dst k r data

end Sys2Proof.Machine
end

