-- ==== Sys2Proof/Machine/Axis.lean ====
section
/-! DEFINITION. Axis control, one axis at a time (R60 to R92): the changes of an axis record, the claim
checks, the servo step, and `Acting.shift`, the one operation through which every axis record changes. -/

namespace Sys2Proof.Machine

/-! ### Small arithmetic -/

/-- A number clamped into lo..hi. -/
def clampTo (lo hi v : Int) : Int := max lo (min hi v)

/-- Does the number lie within -d..+d? -/
def within (d : Nat) (e : Int) : Bool := decide (-(d : Int) ≤ e) && decide (e ≤ d)

/-- R68, step 1: a goal clamped into the soft limits. -/
def MotionRecord.clampGoal (m : MotionRecord) (g : Int) : Int := clampTo m.softMin m.softMax g

/-- R60: the update period in µs; 0 means 256 ms. -/
def MotionRecord.updateTime (m : MotionRecord) : Nat := (if m.period = 0 then 256 else m.period) * 1000

/-- R61: the drive age limit and the stall time in µs. -/
def GuardRecord.ageTime (g : GuardRecord) : Nat := g.ageLimit * 10000
def GuardRecord.stallWait (g : GuardRecord) : Nat := g.stallTime * 100000

/-- R96: the jog timeout and the stow phase timeout in µs. -/
def PointingRecord.jogTime (r : PointingRecord) : Nat := r.jogTimeout * 10000
def PointingRecord.phaseTime (r : PointingRecord) : Nat := r.phaseTimeout * 1000000

/-! ### Axis states -/

/-- R65: the states in which a goal is present. -/
def AxisState.holdsGoal : AxisState → Bool
  | .moving => true
  | .atGoal => true
  | .held => true
  | .stopped => false
  | .jogging => false
  | .stopping => false
  | .fault => false

/-- R88: the states in which the stall timer may run. -/
def AxisState.runs : AxisState → Bool
  | .moving => true
  | .jogging => true
  | .stopped => false
  | .atGoal => false
  | .held => false
  | .stopping => false
  | .fault => false

/-- An axis enters a state. The goal is kept only where R65 has one, the jog request and its timer only
in JOGGING (R82), the stall timer only between MOVING and JOGGING (R88), the fault cause only in FAULT. -/
def AxisRun.enter (st : AxisState) (r : AxisRun) : AxisRun :=
  { r with
    state := st
    goal := if st.holdsGoal then r.goal else none
    jog := if st = .jogging then r.jog else none
    jogTimer := if st = .jogging then r.jogTimer else none
    stallTimer := if st = r.state ∨ (st.runs && r.state.runs) then r.stallTimer else none
    faultCause := if st = .fault then r.faultCause else .none }

/-- The record of an immediate zero (R77). -/
def AxisRun.zeroed (r : AxisRun) : AxisRun := { r with vPrev := 0, stallTimer := none }

/-- A granted goal claim on one axis (R68). -/
def AxisRun.claimed (m : MotionRecord) (o : Owner) (g : Int) (r : AxisRun) : AxisRun :=
  let goal := m.clampGoal g
  if r.state = .atGoal ∧ r.goal = some goal then { r with owner := o }
  else { r.enter .moving with goal := some goal, owner := o, settle := 0 }

/-- A granted jog (R81). -/
def AxisRun.jogged (m : MotionRecord) (t : PointingRecord) (rate : Int) (r : AxisRun) : AxisRun :=
  { r.enter .jogging with
    owner := .jog, settle := 0, jog := some (clampTo (-(m.vmax : Int)) m.vmax rate), jogTimer := some t.jogTime }

/-- A release (R69). -/
def AxisRun.released (r : AxisRun) : AxisRun :=
  match r.state with
  | .moving | .held => { r.enter .stopping with owner := .none, settle := 0 }
  | _ => { r with owner := .none }

/-- A stop of one axis (R70). -/
def AxisRun.stoppedBy (r : AxisRun) : AxisRun :=
  match r.state with
  | .moving | .atGoal | .held | .jogging =>
    { r.enter (if r.vPrev = 0 then .stopped else .stopping) with owner := .none, settle := 0 }
  | .stopping | .stopped | .fault => r

/-- ESTOP assertion or STOP_ALL at one axis, after its immediate zero (R79, R80). -/
def AxisRun.cutOff (r : AxisRun) : AxisRun :=
  if r.state = .fault then r.zeroed else { (r.enter .stopped).zeroed with owner := .none, settle := 0 }

/-- The table of R78, after the immediate zero. -/
def AxisRun.held (r : AxisRun) : AxisRun :=
  match r.state with
  | .moving | .atGoal => { (r.enter .held).zeroed with settle := 0 }
  | .stopping => (r.enter .stopped).zeroed
  | _ => r.zeroed

/-- Entry into FAULT (R89). -/
def AxisRun.faulted (cause : FaultCause) (r : AxisRun) : AxisRun :=
  { (r.enter .fault).zeroed with owner := .none, settle := 0, faultCause := cause }

/-- R90: may a faulted axis be cleared? -/
def AxisRun.clearable (c : Ctx) (x : Axis) (r : AxisRun) : Bool :=
  c.posFresh x && decide (r.drive = .ready) &&
  match r.driveAge with
  | .running _ => true
  | .stopped => false
  | .expired => false

/-- A cleared axis (R90). -/
def AxisRun.cleared (r : AxisRun) : AxisRun := { r.enter .stopped with owner := .none, vPrev := 0 }

/-! ### Claims -/

/-- R66. -/
def Owner.rank : Owner → Nat
  | .none => 0 | .aim => 1 | .search => 1 | .jog => 2 | .safety => 3

/-- R66: does a claim pass arbitration? -/
def AxisRun.yields (r : AxisRun) (claimant : Owner) : Bool :=
  decide (r.owner.rank ≤ claimant.rank) &&
    (decide (claimant ≠ .search) || decide (r.owner = .none) || decide (r.owner = .search)
      || (decide (r.owner = .aim) && decide (r.state = .atGoal)))

/-- R67 on one axis: the first check that fails. -/
def claimCheck (c : Ctx) (claimant : Owner) (x : Axis) (r : AxisRun) : Option Result :=
  if !c.operating then some .notStarted
  else if c.sen.estop then some .estopActive
  else if r.state = .fault then some .axisFault
  else if !r.yields claimant then some (if r.owner = .safety then .stowActive else .busyOwner)
  else if r.drive ≠ .ready then some .driveNotReady
  else if !c.posFresh x then some .noPosition
  else none

/-- R67 on the axes a claim names, in axis order. -/
def claimChecks (c : Ctx) (claimant : Owner) (named : Axis → Bool) (a : Acting) : Option Result :=
  axisList.findSome? fun x => if named x then claimCheck c claimant x (a.axes.get x) else none

/-! ### The servo step -/

/-- R74: the direction of a rate. -/
def directionOf (x : Axis) (v : Int) : Direction :=
  match x with
  | .mast => if 0 < v then .mastUp else .mastDown
  | .pan => if 0 < v then .panCw else .panCcw
  | .tilt => if 0 < v then .tiltUp else .tiltDown

/-- R74: is a rate blocked? -/
def Ctx.blocks (c : Ctx) (x : Axis) (v : Int) : Bool :=
  let m := c.tab.motion.get x
  decide (v ≠ 0) &&
    (!hasDirection c.sen.permit (directionOf x v)
      || (decide (0 < v) && decide (m.softMax ≤ c.pos x))
      || (decide (v < 0) && decide (c.pos x ≤ m.softMin))
      || (decide (x = .mast) && decide (v < 0) && c.guardBlocks))

/-- R72: the error of a step; JOGGING and STOPPING form none. -/
def AxisRun.error (r : AxisRun) (p : Int) : Int :=
  match r.goal with
  | some g => g - p
  | none => 0

/-- R72: the raw demand. -/
def AxisRun.rawDemand (m : MotionRecord) (r : AxisRun) (p : Int) : Int :=
  match r.state with
  | .moving | .atGoal | .held =>
    let e := r.error p
    if within m.deadband e then 0 else ((m.gain : Int) * e).tdiv 16
  | .jogging => r.jog.getD 0
  | .stopping | .stopped | .fault => 0

/-- R73: the three clamps. -/
def MotionRecord.rate (m : MotionRecord) (vPrev raw : Int) : Int :=
  let limited := clampTo (-(m.vmax : Int)) m.vmax raw
  let slewed := clampTo (vPrev - m.accel) (vPrev + m.accel) limited
  clampTo (-(m.vmax : Int)) m.vmax slewed

/-- R76: the axis with its settle run at a value; at the settle count it becomes AT_GOAL with the run 0. -/
def AxisRun.settledAt (m : MotionRecord) (run : Nat) (r : AxisRun) : AxisRun :=
  if m.settleCount ≤ run then { r.enter .atGoal with settle := 0 } else { r with settle := run }

/-- R76: a step that leaves the axis MOVING counts its settle run. -/
def AxisRun.settling (m : MotionRecord) (e : Int) (r : AxisRun) : AxisRun :=
  r.settledAt m (if within m.deadband e then r.settle + 1 else 0)

/-- R75, R76: the axis after a step that forms the rate v, with whether v is blocked; a STOPPED or FAULT
axis stays as it is (R71). A HELD axis whose drive is NOT_READY stays HELD at every raw demand, 0 as well
(R86 over the first HELD row of R75, log 44); another with raw demand 0, whatever its error, has that step
counted, so its run is 1. -/
def AxisRun.outcome (m : MotionRecord) (p raw v : Int) (blocked : Bool) (r : AxisRun) : AxisRun :=
  let e := r.error p
  match r.state with
  | .stopped | .fault => { r with vPrev := 0 }
  | .moving =>
    if blocked then { r.enter .held with vPrev := 0, settle := 0 }
    else { r with vPrev := v }.settling m e
  | .atGoal =>
    if blocked then { r.enter .held with vPrev := 0, settle := 0 }
    else if within (2 * m.deadband) e then { r with vPrev := v }
    else { r.enter .moving with vPrev := v, settle := 0 }
  | .jogging => { r with vPrev := if blocked then 0 else v }
  | .stopping =>
    if blocked ∨ v = 0 then { r.enter .stopped with vPrev := 0 } else { r with vPrev := v }
  | .held =>
    if r.drive = .notReady then { r with vPrev := 0 }
    else if raw = 0 then { r.enter .moving with vPrev := 0 }.settledAt m 1
    else if blocked then { r with vPrev := 0 }
    else { r.enter .moving with vPrev := v, settle := 0 }

/-- R88 at a servo step: the timer is stopped by a rate below the stall demand, and started when it is
stopped and the step both began and ended in MOVING or JOGGING (log 23). -/
def AxisRun.stallWatch (g : GuardRecord) (before : AxisState) (p : Int) (r : AxisRun) : AxisRun :=
  if r.vPrev.natAbs < g.stallDemand then { r with stallTimer := none }
  else if before.runs && r.state.runs && r.stallTimer.isNone then
    { r with stallTimer := some g.stallWait, stallPos := some p }
  else r

/-- One servo step (R71 to R76). The rate it sends is the v_prev it leaves. -/
def AxisRun.servo (c : Ctx) (x : Axis) (r : AxisRun) : AxisRun :=
  let m := c.tab.motion.get x
  let p := c.pos x
  let raw := r.rawDemand m p
  let v := m.rate r.vPrev raw
  (r.outcome m p raw v (c.blocks x v)).stallWatch (c.tab.guard.get x) r.state p

/-! ### The one change of axis records -/

/-- R103: a pending search-after is dropped when pan or tilt leaves owner AIM. -/
def PointingRun.watch (t : PerAxis AxisRun) (r : PointingRun) : PointingRun :=
  if t.pan.owner = .aim ∧ t.tilt.owner = .aim then r else { r with pending := none }

/-- The DEMANDs that one event sends for several axes, at START, ESTOP, a STOP_ALL, a permit change or the
reopening of port D (R77). DESIGN CHOICE (log 24): no rule orders them, and they enter the port D queue in the
order mast, pan, tilt. -/
def Acting.sendDemands (c : Ctx) (rate : Axis → Option Int) (a : Acting) : Acting :=
  axisList.foldl (fun a x =>
    match rate x with
    | some v => a.emit c fun t w o => o.sendDemand t w x v
    | none => a) a

/-- R91: a STATUS is requested for each axis whose state changed, in axis order. -/
def Acting.reportAxes (c : Ctx) (old : PerAxis AxisRun) (a : Acting) : Acting :=
  axisList.foldl (fun b x => if (a.axes.get x).state = (old.get x).state then b else b.requestStatus c) a

/-- R28, R91: the new axis records, axis by axis; the line set is formed at each (log 45). -/
def Acting.setAxes (c : Ctx) (t : PerAxis AxisRun) (a : Acting) : Acting :=
  axisList.foldl (fun a x => ({ a with axes := a.axes.set x (t.get x) } : Acting).formLines c) a

/-- Every change of axis records: the new records with the BEACON that follows them, the DEMANDs the change
sends, and the STATUS requests of R91. The hand-offs to the search and the sequencer are made by its
callers. -/
def Acting.shift (c : Ctx) (rate : Axis → Option Int) (f : Axis → AxisRun → AxisRun) (a : Acting) : Acting :=
  let t : PerAxis AxisRun := ⟨f .mast a.axes.mast, f .pan a.axes.pan, f .tilt a.axes.tilt⟩
  (({ a.setAxes c t with pointing := a.pointing.watch t }).sendDemands c rate).reportAxes c a.axes

/-- A change that sends nothing. -/
def Acting.shiftQuiet (c : Ctx) (f : Axis → AxisRun → AxisRun) (a : Acting) : Acting :=
  a.shift c (fun _ => none) f

/-- A change of one axis that sends nothing. -/
def Acting.shiftOne (c : Ctx) (x : Axis) (f : AxisRun → AxisRun) (a : Acting) : Acting :=
  a.shiftQuiet c fun y r => if y = x then f r else r

/-- R77: the immediate zeros of the chosen axes. In UNCONFIGURED no DEMAND is sent (R178, log 11). -/
def immediateZeros (c : Ctx) (chosen : Axis → Bool) : Axis → Option Int :=
  fun x => if c.operating && chosen x then some 0 else none

/-- A granted goal claim on the axes that have a goal (R68). -/
def Acting.claim (c : Ctx) (o : Owner) (goal : Axis → Option Int) (a : Acting) : Acting :=
  a.shiftQuiet c fun x r =>
    match goal x with
    | some g => r.claimed (c.tab.motion.get x) o g
    | none => r

/-- R69: a client releases every axis it still owns. -/
def Acting.release (c : Ctx) (o : Owner) (a : Acting) : Acting :=
  a.shiftQuiet c fun _ r => if r.owner = o then r.released else r

end Sys2Proof.Machine
end

