-- ==== Sys2Proof/Machine/Search.lean ====
section
/-! DEFINITION. The peak search (R106 to R126), from its ends up to its starts. -/

namespace Sys2Proof.Machine

/-- R123: the running states. -/
def SearchState.running : SearchState → Bool
  | .probing => true
  | .peaked => true
  | .suspended => true
  | .idle => false
  | .failed => false

/-- A change of the search record alone. -/
def Acting.searching (f : SearchRun → SearchRun) (a : Acting) : Acting := { a with search := f a.search }

/-- R112, R119: pan and tilt stand still. -/
def Acting.dishStill (a : Acting) : Bool :=
  decide (a.axes.pan.state = .atGoal) && decide (a.axes.tilt.state = .atGoal)

/-- R106: the suspend limit in µs. -/
def SearchRecord.suspendTime (r : SearchRecord) : Nat := r.suspendLimit * 100000

/-! ### Ends -/

/-- R125, step 1. The peak level is present until the search ends (R108, log 37). -/
def SearchRun.ended (st : SearchState) (reason : FailureReason) (s : SearchRun) : SearchRun :=
  { s with state := st, reason := reason, buffer := [], ring := [], causes := .empty, timer := none, peak := none }

/-- The SEARCH_END event (R125). -/
def Acting.searchEvent (c : Ctx) (outcome : Ending) (reason : Int) (level : Option Int) (a : Acting) : Acting :=
  a.raise c .searchEnd [Word.ofInt (endingCode outcome), Word.ofInt reason, Word.ofInt (absentOr level),
    BitVec.ofNat 16 a.search.count]

/-- R125: the search ends. -/
def Acting.endSearch (c : Ctx) (st : SearchState) (reason : FailureReason) (outcome : Ending) (a : Acting) : Acting :=
  let b := (a.searching (·.ended st reason)).release c .search
  b.searchEvent c outcome (failureReasonCode reason) b.search.bestLevel

/-- R123: a running search is aborted. -/
def Acting.abortSearch (c : Ctx) (a : Acting) : Acting :=
  if a.search.state.running then a.endSearch c .idle .none .aborted else a

/-- R124: a running search fails. -/
def Acting.failSearch (c : Ctx) (reason : FailureReason) (a : Acting) : Acting :=
  if a.search.state.running then a.endSearch c .failed reason .failed else a

/-! ### Peak and return (R117) -/

/-- R117: the comparison with F. -/
def Acting.peakOrFail (c : Ctx) (a : Acting) : Acting :=
  match a.search.bestLevel with
  | some l =>
    if c.tab.search.floor ≤ l then a.searching fun s => { s with state := .peaked, peak := some l, ring := [] }
    else a.failSearch c .noSignal
  | none => a.failSearch c .noSignal

/-- R117: is a search in RETURN at its best position? -/
def Acting.returned (a : Acting) : Bool :=
  decide (a.search.state = .probing) && decide (a.search.purpose = .returning) && a.dishStill
    && decide (a.axes.pan.owner = .search) && decide (a.axes.tilt.owner = .search)

/-- R117: a search in RETURN makes its comparison when both axes are AT_GOAL with owner SEARCH. -/
def Acting.returnCheck (c : Ctx) (a : Acting) : Acting := if a.returned then a.peakOrFail c else a

/-! ### Suspension (R121, R122) -/

/-- R122: the search resumes. -/
def Acting.resumeSearch (c : Ctx) (a : Acting) : Acting :=
  match a.search.from_ with
  | .peaked => a.searching fun s => { s with state := .peaked, timer := none, ring := [] }
  | .probing => (a.searching fun s => { s with state := .probing, timer := none, buffer := [] }).returnCheck c

/-- R121: a search is suspended, with the state it leaves. -/
def SearchRun.suspend (r : SearchRecord) (left : SuspendedFrom) (s : SearchRun) : SearchRun :=
  { s with state := .suspended, from_ := left, timer := some r.suspendTime, buffer := [], ring := [] }

/-- R121: a cause enters the set. -/
def SearchRun.enterCause (r : SearchRecord) (f : SuspendCauses → SuspendCauses) (s : SearchRun) : SearchRun :=
  match s.state with
  | .probing => { s.suspend r .probing with causes := f s.causes }
  | .peaked => { s.suspend r .peaked with causes := f s.causes }
  | .suspended => { s with causes := f s.causes }
  | .idle | .failed => s

def Acting.enterCause (c : Ctx) (f : SuspendCauses → SuspendCauses) (a : Acting) : Acting :=
  a.searching (·.enterCause c.tab.search f)

/-- R121, R122: a cause leaves the set; the last one to leave resumes the search. -/
def Acting.leaveCause (c : Ctx) (f : SuspendCauses → SuspendCauses) (a : Acting) : Acting :=
  if a.search.state = .suspended ∧ f a.search.causes ≠ a.search.causes then
    let b := a.searching fun s => { s with causes := f s.causes }
    if b.search.causes = .empty then b.resumeSearch c else b
  else a

/-! ### Probes (R114 to R117) -/

/-- The best position; present in every running search (R111). -/
def SearchRun.bestAt (s : SearchRun) : PanTilt := s.best.getD ⟨0, 0⟩

/-- The centre; present in every running search (R111). -/
def SearchRun.centreAt (s : SearchRun) : PanTilt := s.centre.getD ⟨0, 0⟩

/-- R114: one coordinate of a probe, clamped into the window and then into the soft limits. -/
def clampProbe (m : MotionRecord) (window centre v : Int) : Int :=
  m.clampGoal (clampTo (centre - window) (centre + window) v)

/-- R114: the step with its direction. -/
def SearchRun.signedStep (s : SearchRun) : Int := if s.positive then s.step else -(s.step : Int)

/-- R114: the goals of the next probe. -/
def SearchRun.probeAim (t : Tables) (s : SearchRun) : PanTilt :=
  let best := s.bestAt
  match s.turn with
  | .pan => { best with pan := clampProbe t.motion.pan t.search.window s.centreAt.pan (best.pan + s.signedStep) }
  | .tilt => { best with tilt := clampProbe t.motion.tilt t.search.window s.centreAt.tilt (best.tilt + s.signedStep) }

/-- The other axis of a round. -/
def Turn.other : Turn → Turn
  | .pan => .tilt
  | .tilt => .pan

/-- R116, R117: the failure step, and whether the search goes on to a next probe; if not, the last round
has ended and it returns to the best position. Where the round ends no turn is present, so no direction has
failed in one (R108): the worked search of 06_peak_search has 0 failed directions there. -/
def SearchRun.failStep (r : SearchRecord) (s : SearchRun) : SearchRun × Bool :=
  if s.failed = 0 then ({ s with failed := 1, positive := !s.positive }, true)
  else
    let n := if s.gain then 0 else s.noGain + 1
    if n < 2 then
      ({ s with noGain := n, turn := s.turn.other, positive := true, failed := 0, gain := false }, true)
    else if r.smin < s.step then
      ({ s with noGain := 0, step := max r.smin (s.step / 2), turn := .pan, positive := true, failed := 0,
                gain := false }, true)
    else ({ s with noGain := n, failed := 0 }, false)

/-- R114: blocked probes are handed to the failure step until a probe is not blocked, or the last round
ends (none). The first argument bounds the blocked probes; `seekBound` is never reached. -/
def SearchRun.seek (t : Tables) : Nat → SearchRun → SearchRun × Option PanTilt
  | 0, s => (s, none)
  | n + 1, s =>
    let aim := s.probeAim t
    if aim = s.bestAt then
      match s.failStep t.search with
      | (s', true) => SearchRun.seek t n s'
      | (s', false) => (s', none)
    else (s, some aim)

/-- No more blocked probes than this can follow one another: at most four a round, and the step halves
from round to round (R114, R117). -/
def SearchRun.seekBound (s : SearchRun) : Nat := 4 * (s.step + 2)

/-- The goals of a claim on pan and tilt. -/
def PanTilt.goals (g : PanTilt) : Axis → Option Int
  | .mast => none
  | .pan => some g.pan
  | .tilt => some g.tilt

/-- R115: a probe that is not blocked. -/
def Acting.makeProbe (c : Ctx) (g : PanTilt) (a : Acting) : Acting :=
  let a := a.searching fun s => { s with count := s.count + 1 }
  if c.tab.search.maxProbes < a.search.count then a.failSearch c .probeLimit
  else
    (a.claim c .search g.goals).searching fun s => { s with probeGoal := some g, purpose := .probe, buffer := [] }

/-- R117: the claims of RETURN. -/
def Acting.goBack (c : Ctx) (a : Acting) : Acting :=
  ((a.claim c .search a.search.bestAt.goals).searching fun s => { s with purpose := .returning }).returnCheck c

/-- R114: the search makes its next probe. -/
def Acting.nextProbe (c : Ctx) (a : Acting) : Acting :=
  let r := a.search.seek c.tab a.search.seekBound
  let a := { a with search := r.1 }
  match r.2 with
  | some g => a.makeProbe c g
  | none => a.goBack c

/-! ### Measurement (R112, R113, R116, R119, R120) -/

/-- R113: the mean of the values, rounded by the formula. -/
def meanLevel (vs : List Int) : Int := (vs.sum + (vs.length / 2 : Nat)).tdiv vs.length

/-- R118: an entry is appended; of nine the oldest leaves. -/
def SearchRun.remember (e : ProbeEntry) (s : SearchRun) : SearchRun :=
  let h := s.history ++ [e]
  { s with history := h.drop (h.length - Config.historyPlaces) }

/-- R116, R118: a completed probe measurement. -/
def Acting.judge (c : Ctx) (m : Int) (a : Acting) : Acting :=
  let s := a.search
  let goal := s.probeGoal.getD s.bestAt
  let accepted := decide (s.bestLevel.getD 0 + c.tab.search.improve ≤ m)
  let s := s.remember { goal := goal, level := m, accepted := accepted, step := s.step }
  if accepted then
    { a with search := { s with best := some goal, bestLevel := some m, failed := 0, gain := true } }.nextProbe c
  else
    let r := s.failStep c.tab.search
    let a := { a with search := r.1 }
    if r.2 then a.nextProbe c else a.goBack c

/-- R113: a completed measurement. -/
def Acting.measured (c : Ctx) (m : Int) (a : Acting) : Acting :=
  let a := a.searching fun s => { s with buffer := [] }
  match a.search.purpose with
  | .base => (a.searching fun s => { s with bestLevel := some m }).nextProbe c
  | .probe => a.judge c m
  | .returning => a

/-- R120: a re-search on drift, from the ring's mean. DEDUCED (log 47): the ring is emptied with it, since the
probe that follows takes an axis out of AT_GOAL, and a RETURN without a probe ends in PEAKED or in a failure,
each of which empties it (R117, R119, R125). -/
def Acting.drift (c : Ctx) (m : Int) (a : Acting) : Acting :=
  (a.searching fun s =>
    { s with
      repeaks := bumpTo Config.byteMax s.repeaks, state := .probing
      step := min c.tab.search.s0 (4 * c.tab.search.smin), bestLevel := some m, count := 0, turn := .pan
      positive := true, failed := 0, noGain := 0, gain := false, ring := [] }).nextProbe c

/-- R119: a value enters the level ring of a PEAKED search. -/
def Acting.ringLevel (c : Ctx) (v : Int) (a : Acting) : Acting :=
  let ring := a.search.ring ++ [v]
  let ring := ring.drop (ring.length - c.tab.search.samples)
  let a := a.searching fun s => { s with ring := ring }
  if ring.length = c.tab.search.samples ∧ meanLevel ring < a.search.peak.getD 0 - c.tab.search.repeakDrop then
    a.drift c (meanLevel ring)
  else a

/-- R112: a value enters the measurement buffer of a PROBING search. -/
def Acting.bufferLevel (c : Ctx) (v : Int) (a : Acting) : Acting :=
  let buffer := a.search.buffer ++ [v]
  if c.tab.search.samples ≤ buffer.length then a.measured c (meanLevel buffer)
  else a.searching fun s => { s with buffer := buffer }

/-- R112, R119, R121: an RX_LEVEL value is taken. The value that ends a suspension is not kept (log 20). -/
def Acting.searchLevel (c : Ctx) (v : Int) (a : Acting) : Acting :=
  match a.search.state with
  | .probing => if a.search.purpose ≠ .returning ∧ a.dishStill then a.bufferLevel c v else a
  | .peaked => if a.dishStill then a.ringLevel c v else a
  | .suspended => a.leaveCause c fun k => { k with levelStale := false }
  | .idle | .failed => a

/-! ### What the neighbours hand to the search -/

/-- R112, R119: pan or tilt has left AT_GOAL. -/
def leftGoal (old new : AxisRun) : Bool := decide (old.state = .atGoal) && decide (new.state ≠ .atGoal)

/-- R121: an axis has entered HELD, or left it. -/
def enteredHeld (old new : AxisRun) : Bool := decide (old.state ≠ .held) && decide (new.state = .held)
def leftHeld (old new : AxisRun) : Bool := decide (old.state = .held) && decide (new.state ≠ .held)

/-- R91, R112, R117, R119, R121: the changes of the pan and tilt states since `old`. -/
def Acting.searchSeesAxes (c : Ctx) (old : PerAxis AxisRun) (a : Acting) : Acting :=
  let pan := a.axes.pan
  let tilt := a.axes.tilt
  let a := if a.search.state.running && (leftGoal old.pan pan || leftGoal old.tilt tilt) then
    a.searching fun s => { s with buffer := [], ring := [] } else a
  let a := if enteredHeld old.pan pan then a.enterCause c (fun k => { k with panHeld := true }) else a
  let a := if enteredHeld old.tilt tilt then a.enterCause c (fun k => { k with tiltHeld := true }) else a
  let a := if leftHeld old.pan pan then a.leaveCause c (fun k => { k with panHeld := false }) else a
  let a := if leftHeld old.tilt tilt then a.leaveCause c (fun k => { k with tiltHeld := false }) else a
  a.returnCheck c

/-- R121: the permit set has changed from `old`. -/
def Acting.searchSeesPermit (c : Ctx) (old : BitVec 7) (a : Acting) : Acting :=
  let before := hasDirection old .track
  let now := hasDirection c.sen.permit .track
  if before && !now then a.enterCause c fun k => { k with trackLost := true }
  else if !before && now then a.leaveCause c fun k => { k with trackLost := false }
  else a

/-! ### Starts (R110, R111) -/

/-- R110: a FAILED search returns to IDLE. -/
def SearchRun.forgiven (s : SearchRun) : SearchRun :=
  if s.state = .failed then { s with state := .idle, reason := .none } else s

/-- Pan and tilt, as the axes a claim names. -/
def isDish : Axis → Bool
  | .mast => false
  | .pan => true
  | .tilt => true

/-- R110: the first check that fails. -/
def searchChecks (c : Ctx) (sender : Node) (a : Acting) : Option Result :=
  if !c.operating then some .notStarted
  else if a.search.state.running then some .noChange
  else if !(c.tab.mayMove sender .pan && c.tab.mayMove sender .tilt) then some .noRights
  else if !c.sen.fresh 8 then some .noLevel
  else if !hasDirection c.sen.permit .track then some .inhibited
  else match claimChecks c .search isDish a with
    | some r => some r
    | none =>
      if a.dishStill || (decide (a.axes.pan.state = .stopped) && decide (a.axes.tilt.state = .stopped)) then none
      else some .busyOwner

/-- R111, step 1: the goal of a start on one axis: the present goal of an AT_GOAL axis, the present
position of a STOPPED one, clamped. -/
def startGoal (c : Ctx) (a : Acting) (x : Axis) : Int :=
  (c.tab.motion.get x).clampGoal ((a.axes.get x).goal.getD (c.pos x))

/-- R111, steps 2 and 3. -/
def SearchRun.begun (t : SearchRecord) (centre : PanTilt) (s : SearchRun) : SearchRun :=
  { s with
    state := .probing, reason := .none, purpose := .base, centre := some centre, best := some centre
    bestLevel := none, peak := none, step := t.s0, count := 0, failed := 0, noGain := 0, gain := false
    turn := .pan, positive := true, repeaks := 0, causes := .empty, buffer := [], ring := [], history := [] }

/-- R111: a start that has passed its checks. -/
def Acting.beginSearch (c : Ctx) (a : Acting) : Acting :=
  let centre : PanTilt := ⟨startGoal c a .pan, startGoal c a .tilt⟩
  let b := (a.claim c .search centre.goals).searching (·.begun c.tab.search centre)
  if b.seq.state = .lowering then b.enterCause c fun k => { k with lowerRunning := true } else b

/-- R110, R111: a start asked for by a node, and its result. -/
def Acting.startSearch (c : Ctx) (sender : Node) (a : Acting) : Acting × Result :=
  let a := a.searching SearchRun.forgiven
  match searchChecks c sender a with
  | some r => (a, r)
  | none => (a.beginSearch c, .done)

/-- R103: a pending search-after starts the search once pan and tilt are both AT_GOAL with owner AIM. A
refusal raises SEARCH_END, but for one at step 2 of R110. -/
def Acting.searchAfter (c : Ctx) (a : Acting) : Acting :=
  match a.pointing.pending with
  | none => a
  | some sender =>
    if a.dishStill && decide (a.axes.pan.owner = .aim) && decide (a.axes.tilt.owner = .aim) then
      let r := { a with pointing := { a.pointing with pending := none } }.startSearch c sender
      match r.2 with
      | .done => r.1
      | .noChange => r.1
      | refusal => r.1.searchEvent c .refused (resultCode refusal) none
    else a

end Sys2Proof.Machine
end

