-- ==== Sys2Proof/Machine/Sequencer.lean ====
section
/-! DEFINITION. The sequencer (R127 to R139), from its endings up to its starts. -/

namespace Sys2Proof.Machine

/-- R127: a sequence is running while the state is other than IDLE. -/
def SequenceState.running (s : SequenceState) : Bool := decide (s ≠ .idle)

/-- R128: the states of a running STOW. -/
def SequenceState.stowing : SequenceState → Bool
  | .stowTilt => true
  | .stowPan => true
  | .stowMast => true
  | .idle => false
  | .lowering => false

/-- The sequence a state belongs to (R127). -/
def SequenceState.sequence : SequenceState → SequenceName
  | .idle => .none
  | .lowering => .lower
  | .stowTilt => .stow
  | .stowPan => .stow
  | .stowMast => .stow

/-- R139: the SEQUENCE_END event. Word 4 of a refusal, NONE, has the state IDLE here, whose code is 0
(log 43). -/
def Acting.sequenceEvent (c : Ctx) (name : SequenceName) (outcome : Ending) (reason : Int) (st : SequenceState)
    (a : Acting) : Acting :=
  a.raise c .sequenceEnd [Word.ofInt (sequenceNameCode name), Word.ofInt (endingCode outcome), Word.ofInt reason,
    Word.ofInt (sequenceStateCode st)]

/-- What an ending does with the axes the sequence owns. -/
inductive Parting where
  | release
  | stop
  | pass
  deriving DecidableEq, Repr

/-- R69, R129, R133: the axes at an ending. The axes a sequence owns are those with owner SAFETY (log 35). -/
def Acting.partAxes (c : Ctx) (how : Parting) (a : Acting) : Acting :=
  match how with
  | .release => a.release c .safety
  | .stop => a.shiftQuiet c fun _ r => if r.owner = .safety then r.stoppedBy else r
  | .pass => a

/-- R137: the end of a LOWER is handed to the search. -/
def Acting.lowerEnds (c : Ctx) (was : SequenceState) (a : Acting) : Acting :=
  if was = .lowering then a.leaveCause c fun k => { k with lowerRunning := false } else a

/-- R139: the record of an ending. -/
def SequencerRun.record (name : SequenceName) (outcome : Ending) (reason : SequenceReason) (s : SequencerRun) :
    SequencerRun :=
  { s with lastName := name, lastOutcome := outcome, lastReason := reason }

/-- An ending of the running sequence, in the order of R137: state and timer, axes, search, record and
event. -/
def Acting.endSequence (c : Ctx) (outcome : Ending) (reason : SequenceReason) (how : Parting) (a : Acting) : Acting :=
  let was := a.seq.state
  let a := { a with seq := { a.seq with state := .idle, timer := none } }
  let a := (a.partAxes c how).lowerEnds c was
  let a := { a with seq := a.seq.record was.sequence outcome reason }
  a.sequenceEvent c was.sequence outcome (sequenceReasonCode reason) was

/-- R135: a running sequence is aborted. -/
def Acting.abortSequence (c : Ctx) (a : Acting) : Acting :=
  if a.seq.state.running then a.endSequence c .aborted .none .release else a

/-- R134, R137: an axis the sequence owns has entered FAULT. -/
def Acting.faultSequence (c : Ctx) (a : Acting) : Acting :=
  if a.seq.state.running then a.endSequence c .failed .axisFault .release else a

/-- R133, R137: the phase timer has expired. -/
def Acting.timeoutSequence (c : Ctx) (a : Acting) : Acting :=
  if a.seq.state.running then a.endSequence c .failed .phaseTimeout .stop else a

/-! ### The phases of STOW (R130, R132) -/

/-- R132: STOW_MAST is complete. -/
def Acting.finishStow (c : Ctx) (a : Acting) : Acting := a.endSequence c .done .none .release

/-- A goal for one axis. -/
def goalFor (x : Axis) (g : Int) : Axis → Option Int := fun y => if y = x then some g else none

/-- R130: a phase begins with its claim. A refusal, which only a drive turned NOT_READY can give, ends the
STOW with DRIVE_NOT_READY. `done` follows when the axis stands AT_GOAL after its claim. -/
def Acting.enterPhase (c : Ctx) (st : SequenceState) (x : Axis) (done : Acting → Acting) (a : Acting) : Acting :=
  let a := { a with seq := { a.seq with state := st, timer := some c.tab.pointing.phaseTime } }
  if (claimCheck c .safety x (a.axes.get x)).isSome then a.endSequence c .failed .driveNotReady .release
  else
    let a := a.claim c .safety (goalFor x (c.tab.guard.get x).stowPos)
    if (a.axes.get x).state = .atGoal then done a else a

/-- R130: STOW_PAN is complete. -/
def Acting.enterStowMast (c : Ctx) (a : Acting) : Acting := a.enterPhase c .stowMast .mast (Acting.finishStow c)

/-- R130: STOW_TILT is complete. -/
def Acting.enterStowPan (c : Ctx) (a : Acting) : Acting := a.enterPhase c .stowPan .pan (Acting.enterStowMast c)

/-- R129, step 1: a keep goal. -/
def keepGoal (c : Ctx) (x : Axis) (r : AxisRun) : Int := r.goal.getD (c.pos x)

/-- R129: the goals a STOW sets at its start. -/
def stowGoals (c : Ctx) (a : Acting) : Axis → Option Int
  | .mast => some (keepGoal c .mast a.axes.mast)
  | .pan => some (keepGoal c .pan a.axes.pan)
  | .tilt => some c.tab.guard.tilt.stowPos

/-- R129, step 3: a LOWER gives way to the STOW. -/
def Acting.lowerGivesWay (c : Ctx) (a : Acting) : Acting :=
  if a.seq.state = .lowering then a.endSequence c .aborted .none .pass else a

/-- R129: a STOW starts. -/
def Acting.startStow (c : Ctx) (a : Acting) : Acting :=
  let a := ((a.claim c .safety (stowGoals c a)).abortSearch c).lowerGivesWay c
  let a := { a with seq := { a.seq with state := .stowTilt, timer := some c.tab.pointing.phaseTime } }
  if a.axes.tilt.state = .atGoal then a.enterStowPan c else a

/-- Every axis, as the axes a claim names. -/
def everyAxis : Axis → Bool := fun _ => true

/-- R128: the claim checks of a STOW. -/
def stowClaim (c : Ctx) (a : Acting) : Option Result := claimChecks c .safety everyAxis a

/-- R128: a STOW frame, and its result. -/
def Acting.stowFrame (c : Ctx) (a : Acting) : Acting × Result :=
  if !c.operating then (a, .notStarted)
  else if a.seq.state.stowing then (a, .noChange)
  else match stowClaim c a with
    | some r => (a, r)
    | none => (a.startStow c, .done)

/-- R128: a STOW action, and whether it started. -/
def Acting.stowAction (c : Ctx) (a : Acting) : Acting × Bool :=
  match stowClaim c a with
  | some r => (a.sequenceEvent c .stow .refused (resultCode r) .idle, false)
  | none => (a.startStow c, true)

/-! ### LOWER (R136, R137) -/

/-- R136: a LOWER starts. -/
def Acting.startLower (c : Ctx) (a : Acting) : Acting :=
  let a := a.claim c .safety (goalFor .mast c.tab.pointing.safeHeight)
  let a := { a with seq := { a.seq with state := .lowering, timer := some c.tab.pointing.phaseTime } }
  let a := a.enterCause c fun k => { k with lowerRunning := true }
  if a.axes.mast.state = .atGoal then a.endSequence c .done .none .release else a

/-- R136: a LOWER action, and whether it started. -/
def Acting.lowerAction (c : Ctx) (a : Acting) : Acting × Bool :=
  match claimCheck c .safety .mast a.axes.mast with
  | some r => (a.sequenceEvent c .lower .refused (resultCode r) .idle, false)
  | none => (a.startLower c, true)

/-! ### What axis control hands to the sequencer -/

/-- R130: the axis whose AT_GOAL completes a state. -/
def SequenceState.phaseAxis : SequenceState → Option Axis
  | .idle => none
  | .stowTilt => some .tilt
  | .stowPan => some .pan
  | .stowMast => some .mast
  | .lowering => some .mast

/-- R130, R137: the running phase is complete. -/
def Acting.phaseComplete (c : Ctx) (a : Acting) : Acting :=
  match a.seq.state with
  | .idle => a
  | .stowTilt => a.enterStowPan c
  | .stowPan => a.enterStowMast c
  | .stowMast => a.finishStow c
  | .lowering => a.endSequence c .done .none .release

/-- R91, R130, R137: an axis the sequencer owns has entered AT_GOAL since `old`. Entry into HELD and
return to MOVING do nothing (R131). -/
def Acting.sequencerSeesAxes (c : Ctx) (old : PerAxis AxisRun) (a : Acting) : Acting :=
  match a.seq.state.phaseAxis with
  | some x =>
    if (old.get x).state ≠ .atGoal ∧ (a.axes.get x).state = .atGoal ∧ (a.axes.get x).owner = .safety then a.phaseComplete c
    else a
  | none => a

end Sys2Proof.Machine
end

