-- ==== Sys2Proof/Machine/Motion.lean ====
section
/-! DEFINITION. The events of axis control with the hand-offs they make to the search, pointing, the
sequencer and management (R68, R70, R71, R77 to R91). -/

namespace Sys2Proof.Machine

/-- R91: the axis changes since `old` are handed to the search, to pointing (R103) and to the sequencer. -/
def Acting.handAxes (c : Ctx) (old : PerAxis AxisRun) (a : Acting) : Acting :=
  ((a.searchSeesAxes c old).searchAfter c).sequencerSeesAxes c old

/-! ### The servo step (R71) -/

/-- R71: one servo step of one axis, with the DEMAND that carries its rate. -/
def Acting.servoStep (c : Ctx) (x : Axis) (a : Acting) : Acting :=
  let r := (a.axes.get x).servo c x
  (a.shift c (fun y => if y = x then some r.vPrev else none) (fun y old => if y = x then r else old)).handAxes c a.axes

/-- A change of one axis record that is no change of state, owner or goal. -/
def Acting.tune (x : Axis) (f : AxisRun → AxisRun) (a : Acting) : Acting :=
  { a with axes := a.axes.set x (f (a.axes.get x)) }

/-- R71: an update expiry. It reloads the timer, and is passed over while the axis's previous DEMAND waits. -/
def Acting.updateExpired (c : Ctx) (x : Axis) (a : Acting) : Acting :=
  if (a.axes.get x).updateTimer.isNone then a
  else
    let b := a.tune x fun r => { r with updateTimer := some (c.tab.motion.get x).updateTime }
    if b.out.demandWaits x then b else b.servoStep c x

/-! ### Faults (R85 to R89) -/

/-- R89: the AXIS_FAULT event. -/
def Acting.faultEvent (c : Ctx) (x : Axis) (cause : FaultCause) (a : Acting) : Acting :=
  a.raise c .axisFault [Word.ofInt (axisCode x), Word.ofInt (faultCauseCode cause),
    if cause = .driveFault then (a.axes.get x).driveCause else 0, Word.ofInt (c.posWord x)]

/-- R89: an axis enters FAULT; the client that owned it is told, and the event follows (log 15). -/
def Acting.enterFault (c : Ctx) (x : Axis) (cause : FaultCause) (a : Acting) : Acting :=
  let owner := (a.axes.get x).owner
  let b := a.shift c (immediateZeros c (fun y => decide (y = x))) (fun y r => if y = x then r.faulted cause else r)
  let b := match owner with
    | .search => b.failSearch c .axisFault
    | .safety => b.faultSequence c
    | .none | .aim | .jog => b
  b.faultEvent c x cause

/-- R89: an axis already in FAULT keeps its first cause. -/
def Acting.faultOnce (c : Ctx) (x : Axis) (cause : FaultCause) (a : Acting) : Acting :=
  if (a.axes.get x).state = .fault then a else a.enterFault c x cause

/-- R87: does the loss of its position fault an axis in this state? -/
def AxisState.needsPosition : AxisState → Bool
  | .moving => true
  | .atGoal => true
  | .held => true
  | .jogging => true
  | .stopping => true
  | .stopped => false
  | .fault => false

/-- R87: the position quantity of an axis has gone from FRESH to STALE. -/
def Acting.losePosition (c : Ctx) (x : Axis) (a : Acting) : Acting :=
  if (a.axes.get x).state.needsPosition then a.enterFault c x .positionLost else a

/-- R86: what a drive state taken in OPERATING does. -/
def Acting.driveActs (c : Ctx) (x : Axis) (a : Acting) : Acting :=
  let r := a.axes.get x
  match r.drive with
  | .ready => a
  | .fault => a.faultOnce c x .driveFault
  | .notReady =>
    match r.state with
    | .moving | .jogging | .atGoal => a.enterFault c x .driveDropped
    | .held | .stopped | .stopping | .fault => a

/-- R84: a DRIVE_STATUS is taken by an axis. -/
def Acting.driveReport (c : Ctx) (x : Axis) (d : DriveState) (cause : Word) (a : Acting) : Acting :=
  let a := a.tune x fun r => { r with drive := d, driveCause := cause }
  if c.operating then
    (a.tune x fun r => { r with driveAge := .running (c.tab.guard.get x).ageTime }).driveActs c x
  else a

/-- R85: the drive age timer of an axis expires. -/
def Acting.driveAgeExpired (c : Ctx) (x : Axis) (a : Acting) : Acting :=
  match (a.axes.get x).driveAge with
  | .running _ => (a.tune x fun r => { r with driveAge := .expired }).faultOnce c x .driveSilent
  | .stopped | .expired => a

/-- R88: the stall timer of an axis expires. -/
def Acting.stallExpired (c : Ctx) (x : Axis) (a : Acting) : Acting :=
  let r := a.axes.get x
  let g := c.tab.guard.get x
  let p := c.pos x
  if r.stallTimer.isNone then a
  else if (p - r.stallPos.getD p).natAbs < g.stallDist then a.faultOnce c x .stall
  else a.tune x fun r => { r with stallTimer := some g.stallWait, stallPos := some p }

/-! ### Stops -/

/-- R82: the jog timer of an axis expires. -/
def Acting.jogExpired (c : Ctx) (x : Axis) (a : Acting) : Acting :=
  if (a.axes.get x).state = .jogging ∧ (a.axes.get x).jogTimer.isSome then a.shiftOne c x AxisRun.stoppedBy else a

/-- R70, R135: a STOP frame stops the axes it names, and ends a running search and a running sequence. -/
def Acting.stopNamed (c : Ctx) (named : Axis → Bool) (a : Acting) : Acting :=
  ((a.shiftQuiet c fun x r => if named x then r.stoppedBy else r).abortSearch c).abortSequence c

/-- R79, R80: ESTOP assertion or STOP_ALL at every axis, then at the search and the sequencer (log 16). -/
def Acting.cutOffAll (c : Ctx) (a : Acting) : Acting :=
  ((a.shift c (immediateZeros c everyAxis) (fun _ r => r.cutOff)).abortSearch c).abortSequence c

/-- R78: immediate zeros at the chosen axes, with the table's change of state. -/
def Acting.holdAxes (c : Ctx) (chosen : Axis → Bool) (a : Acting) : Acting :=
  (a.shift c (immediateZeros c chosen) (fun x r => if chosen x then r.held else r)).handAxes c a.axes

/-- R78: is the direction of the axis's v_prev one that the permit set has lost? -/
def lostDirection (old new : BitVec 7) (x : Axis) (r : AxisRun) : Bool :=
  decide (r.vPrev ≠ 0) && hasDirection old (directionOf x r.vPrev) && !hasDirection new (directionOf x r.vPrev)

/-- R55: the permit set has changed from `old`; axis control, the search and management are handed it. The
sequencer keeps its state (R131). -/
def Acting.seePermit (c : Ctx) (old : BitVec 7) (a : Acting) : Acting :=
  ((a.holdAxes c fun x => lostDirection old c.sen.permit x (a.axes.get x)).searchSeesPermit c old).requestStatus c

/-- R78, R97: the mast-down guard stops a mast that moves down, when pan or tilt stops being fresh or a
new clear height is written. -/
def Acting.guardMast (c : Ctx) (a : Acting) : Acting :=
  if a.axes.mast.vPrev < 0 ∧ c.guardBlocks then a.holdAxes c fun x => decide (x = .mast) else a

/-! ### Claims by operators -/

/-- R68, R123: does a claim on these axes take pan or tilt from the search? -/
def takesDish (a : Acting) (named : Axis → Bool) : Bool :=
  (named .pan && decide (a.axes.pan.owner = .search)) || (named .tilt && decide (a.axes.tilt.owner = .search))

/-- R68: a granted AIM claim; a search that loses pan or tilt is aborted. -/
def Acting.claimAim (c : Ctx) (goal : Axis → Option Int) (a : Acting) : Acting :=
  let b := a.claim c .aim goal
  if takesDish a (fun x => (goal x).isSome) then b.abortSearch c else b

/-- R68: was any goal of the claim clamped? -/
def anyClamped (t : Tables) (goal : Axis → Option Int) : Bool :=
  axisList.any fun x =>
    match goal x with
    | some g => decide ((t.motion.get x).clampGoal g ≠ g)
    | none => false

/-- R81: a granted jog; a search that loses pan or tilt is aborted. -/
def Acting.claimJog (c : Ctx) (x : Axis) (rate : Int) (a : Acting) : Acting :=
  let b := a.shiftOne c x (AxisRun.jogged (c.tab.motion.get x) c.tab.pointing rate)
  if takesDish a (fun y => decide (y = x)) then b.abortSearch c else b

/-- R81: a jog asked for by a node, checked and granted. -/
def Acting.jog (c : Ctx) (sender : Node) (x : Axis) (rate : Int) (a : Acting) : Acting × Result :=
  if !c.tab.mayMove sender x then (a, .noRights)
  else match claimCheck c .jog x (a.axes.get x) with
    | some r => (a, r)
    | none => (a.claimJog c x rate, .done)

/-! ### CLEAR (R90) -/

/-- R90: is the axis one that the CLEAR names, in FAULT, and clearable? -/
def clears (c : Ctx) (named : Axis → Bool) (a : Acting) (x : Axis) : Bool :=
  named x && decide ((a.axes.get x).state = .fault) && (a.axes.get x).clearable c x

/-- R90: a CLEAR that passes its value check, and its result. It also returns a FAILED search to IDLE. -/
def Acting.clearNamed (c : Ctx) (named : Axis → Bool) (a : Acting) : Acting × Result :=
  let b := (a.shiftQuiet c fun x r => if clears c named a x then r.cleared else r).searching SearchRun.forgiven
  let stays := axisList.any fun x => named x && decide ((b.axes.get x).state = .fault)
  let cleared := axisList.any fun x => clears c named a x
  (b, if stays then .stillFaulted
      else if cleared || decide (a.search.state = .failed) then .done
      else .noChange)

end Sys2Proof.Machine
end

