-- ==== Sys2Proof/Machine/Rules.lean ====
section
/-! DEFINITION. The interlock rule banks: evaluation, the permit set's changes, actions and events (R43 to
R57), and the line set's arrivals (R3, R23). -/

namespace Sys2Proof.Machine

/-! ### Evaluation (R44) -/

/-- R44: a group at one evaluation, with the predicate and its last rule. -/
def Group.step (last : Rule) (holds : Bool) (g : Group) : Group :=
  match g.state, holds with
  | .clear, true =>
    if g.trueRun + 1 = last.assertP then { g with state := .asserted, trueRun := 0, falseRun := 0 }
    else { g with trueRun := g.trueRun + 1 }
  | .clear, false => { g with trueRun := 0 }
  | .asserted, true => { g with falseRun := 0 }
  | .presumed, true => { g with state := .asserted, trueRun := 0, falseRun := 0 }
  | .asserted, false | .presumed, false =>
    if g.falseRun + 1 = last.releaseP then { g with state := .clear, trueRun := 0, falseRun := 0 }
    else { g with falseRun := g.falseRun + 1 }

/-- R42, R44: the predicate is formed and applied. -/
def Group.evaluated (rules : List Rule) (s : Sensed) (g : Group) : Group :=
  g.step (g.lastRule rules) (g.holds rules s)

/-- R49: the transition triggers the group's action. -/
def triggers (old new : Group) : Bool := decide (old.state ≠ .asserted) && decide (new.state = .asserted)

/-- Does a transition of the event trigger the action? -/
def anyTriggers (rules : List Rule) (changes : List (Group × Group)) (act : Action) : Bool :=
  changes.any fun p => triggers p.1 p.2 && decide ((p.2.lastRule rules).action = act)

/-! ### Actions (R50 to R53) -/

/-- The actions that one event has performed (R47). -/
structure Performed where
  stopAll : Bool
  stow    : Bool
  lower   : Bool
  deriving DecidableEq, Repr

/-- Nothing performed. -/
def Performed.nothing : Performed := { stopAll := false, stow := false, lower := false }

/-- The action word of a group whose action was triggered (R47). -/
def Performed.name (d : Performed) : Action → Action
  | .none => .none
  | .stopAll => if d.stopAll then .stopAll else .none
  | .stow => if d.stow then .stow else .none
  | .lower => if d.lower then .lower else .none

/-- R51: the tests of LOWER. -/
def lowerAllowed (c : Ctx) (a : Acting) : Bool :=
  c.posFresh .mast && decide (c.tab.pointing.safeHeight < c.pos .mast) && !a.seq.state.running

/-- R51, R52: STOW, otherwise LOWER, each subject to its tests; and what started. -/
def Acting.performSequence (c : Ctx) (stow lower : Bool) (a : Acting) : Acting × Performed :=
  if stow then
    if a.seq.state.stowing then (a, .nothing)
    else let r := a.stowAction c; (r.1, { Performed.nothing with stow := r.2 })
  else if lower && lowerAllowed c a then
    let r := a.lowerAction c; (r.1, { Performed.nothing with lower := r.2 })
  else (a, .nothing)

/-- R50, R52: the actions one event triggers, performed in OPERATING (R49). -/
def Acting.perform (c : Ctx) (rules : List Rule) (changes : List (Group × Group)) (a : Acting) : Acting × Performed :=
  if !c.operating then (a, .nothing)
  else
    let stop := anyTriggers rules changes .stopAll
    let a := if stop then a.cutOffAll c else a
    let r := a.performSequence c (anyTriggers rules changes .stow) (anyTriggers rules changes .lower)
    (r.1, { r.2 with stopAll := stop })

/-! ### The permit set (R55) -/

/-- R55: the permit set is formed again, and handed on when it differs. -/
def Part.formPermit (p : Part) : Part :=
  let old := p.sen.permit
  let new := p.ctx.permitSet
  if new = old then p
  else { p with sen := { p.sen with permit := new } }.acting fun c a => a.seePermit c old

/-! ### The hand-on of one event (R48) -/

/-- R47: the GROUP_CHANGE event of one transition. -/
def Acting.groupEvent (c : Ctx) (rules : List Rule) (done : Performed) (old new : Group) (a : Acting) : Acting :=
  if old.state = new.state ∨ (new.lastRule rules).report = false then a
  else
    let act := if triggers old new then done.name (new.lastRule rules).action else .none
    a.raise c .groupChange [BitVec.ofNat 16 new.first, Word.ofInt (groupStateCode old.state),
      Word.ofInt (groupStateCode new.state), Word.ofInt (actionCode act)]

/-- R48: every group concerned is evaluated once, and the outcome is handed on once: the lamps of the changed
groups, the permit set, the actions, the GROUP_CHANGE events, which are raised by ascending first rule
number (log 42). -/
def Part.evaluate (concerned : Group → Bool) (p : Part) : Part :=
  let rules := p.tab.activeRules
  let old := p.sen.groups
  let new := old.map fun g => if concerned g then g.evaluated rules p.sen else g
  let changes := old.zip new
  let p := { p with sen := { p.sen with groups := new } }.formLines.formPermit
  let r := p.act.perform p.ctx rules changes
  { p with act := changes.foldl (fun a ch => a.groupEvent p.ctx rules r.2 ch.1 ch.2) r.1 }

/-- R43: the groups that use a quantity are evaluated. -/
def Part.evaluateFor (q : Fin 24) (p : Part) : Part := p.evaluate fun g => g.uses p.tab.activeRules q

/-! ### The line set's arrivals (R3, R23) -/

/-- The line set is written into LINES. -/
def Sensed.writeLines (v : Int) (s : Sensed) : Sensed :=
  { s with image := s.image.set 11 { s.image[(11 : Fin 24)] with value := v } }

/-- R3, R23: a line set is written into LINES, one arrival for the groups that use it. -/
def Part.takeLines (v : Int) (p : Part) : Part := { p with sen := p.sen.writeLines v }.evaluateFor 11

/-- R23, R48: the line sets that wait are written into LINES, oldest first; one that an arrival's hand-ons
form is a separate arrival after them. -/
def Part.followLines : Nat → Part → Part
  | 0, p => p
  | n + 1, p =>
    match p.act.lineWrites with
    | [] => p
    | v :: rest => Part.followLines n ({ p with act := { p.act with lineWrites := rest } }.takeLines v)

/-- The line set follows everything an event has changed (log 12). -/
def Part.settle (p : Part) : Part := Part.followLines Config.lineRounds p.formLines

/-! ### Bank swap (R56, R57) -/

/-- R57: a bank becomes active; its groups start PRESUMED, the lamps follow them into LINES (R25, R29), and
the groups that use LINES are evaluated once on the line set as it then stands (log 26). -/
def Part.swapTo (b : Bank) (p : Part) : Part :=
  let t := { p.tab with active := b }
  let p : Part := { p with tab := t, sen := { p.sen with groups := t.startGroups } }
  { p with act := { p.act with lineWrites := [] } }.takeLines p.lineSet

/-- R56: a BANK_SWAP that names a bank, and its result. -/
def Part.bankSwap (b : Bank) (p : Part) : Part × Result :=
  if p.tab.active = b then (p, .noChange)
  else if p.tab.bankEmpty b then (p, .emptyRules)
  else (p.swapTo b, .done)

/-- R53: the actions performed at START for the groups that are ASSERTED. -/
def Part.startActions (p : Part) : Part :=
  let rules := p.tab.activeRules
  let want := fun act : Action =>
    p.sen.groups.any fun g => decide (g.state = .asserted) && decide ((g.lastRule rules).action = act)
  { p with act := (p.act.performSequence p.ctx (want .stow) (want .lower)).1 }

end Sys2Proof.Machine
end

