-- ==== Sys2Proof/Machine/Operands.lean ====
section
/-! DEFINITION. The operands: a payload word as a number, a flag or a code, and the fields of every table
entry in their write order, read from words (none: a field count or a field out of range, BAD_VALUE) and
written back to words. -/

namespace Sys2Proof.Machine

/-! ### One word -/

/-- A word within lo..hi. -/
def numIn (lo hi : Int) (w : Word) : Option Int := if lo ≤ w.toInt ∧ w.toInt ≤ hi then some w.toInt else none

/-- A word within 0..hi, or lo..hi with lo a natural number. -/
def natIn (lo hi : Nat) (w : Word) : Option Nat := (numIn lo hi w).map Int.toNat

/-- R150: no 0, yes 1. -/
def yesNo (w : Word) : Option Bool :=
  match w.toInt with
  | 0 => some false
  | 1 => some true
  | _ => none

/-- A number below n + 1. -/
def finIn (n : Nat) (w : Word) : Option (Fin (n + 1)) := (natIn 0 n w).map (Fin.ofNat (n + 1))

/-- A set of n members as a mask (R150). -/
def setIn (n : Nat) (w : Word) : Option (BitVec n) := (natIn 0 (2 ^ n - 1) w).map (BitVec.ofNat n)

/-- A signed 16-bit value other than the absent marker, within lo..hi, or the absent marker. -/
def numOrAbsent (lo hi : Int) (w : Word) : Option (Option Int) :=
  if w.toInt = absentMarker then some none else (numIn lo hi w).map some

/-- Words of a number, a natural number and a flag. -/
def intWord (i : Int) : Word := Word.ofInt i
def natWord (n : Nat) : Word := BitVec.ofNat 16 n
def flagWord (b : Bool) : Word := Word.ofInt (boolCode b)

/-- R70, R90: an axis, or 3 for all three: the axes named. -/
def namedAxes (w : Word) : Option (Axis → Bool) :=
  if w.toInt = 3 then some everyAxis else (axisOf w.toInt).map fun x y => decide (y = x)

/-! ### The entries -/

/-- R155, R156. -/
def readNode : List Word → Option NodeEntry
  | [w1, w2, w3, w4, w5, w6, w7, w8] => do
    let present ← yesNo w1
    let port ← portOf w2.toInt
    let role ← roleOf w3.toInt
    let rights ← setIn 3 w4
    let mirror ← yesNo w5
    let rate ← natIn 1 1000 w6
    let burst ← natIn 1 64 w7
    let cap ← natIn 0 7 w8
    pure { present, port, role, rights, mirror, rate, burst, cap }
  | _ => none

def NodeEntry.words (e : NodeEntry) : List Word :=
  [flagWord e.present, intWord (portCode e.port), intWord (roleCode e.role), e.rights.setWidth 16, flagWord e.mirror,
   natWord e.rate, natWord e.burst, natWord e.cap]

/-- R1, R13, but for the tests that need other records. -/
def readQuantity : List Word → Option QuantityEntry
  | [w1, w2, w3, w4] => do
    let lo ← numIn (-32767) 32767 w1
    let hi ← numIn (-32767) 32767 w2
    let maxAge ← natIn 1 255 w3
    let source ← finIn 31 w4
    if lo ≤ hi then pure { lo, hi, maxAge, source } else none
  | _ => none

def QuantityEntry.words (e : QuantityEntry) : List Word :=
  [intWord e.lo, intWord e.hi, natWord e.maxAge, natWord e.source.val]

/-- R35, R36. -/
def readRule : List Word → Option Rule
  | [w1, w2, w3, w4, w5, w6, w7, w8, w9, w10] => do
    let used ← yesNo w1
    let operand ← finIn 23 w2
    let condition ← conditionOf w3.toInt
    let join ← joinOf w5.toInt
    let assertP ← natIn 1 15 w6
    let releaseP ← natIn 1 15 w7
    let inhibits ← setIn 7 w8
    let action ← actionOf w9.toInt
    let report ← yesNo w10
    pure { used, operand, condition, threshold := w4.toInt, join, assertP, releaseP, inhibits, action, report }
  | _ => none

def Rule.words (r : Rule) : List Word :=
  [flagWord r.used, natWord r.operand.val, intWord (conditionCode r.condition), intWord r.threshold,
   intWord (joinCode r.join), natWord r.assertP, natWord r.releaseP, r.inhibits.setWidth 16, intWord (actionCode r.action),
   flagWord r.report]

/-- R60, R62, but for the test against the position quantity. -/
def readMotion : List Word → Option MotionRecord
  | [w1, w2, w3, w4, w5, w6, w7, w8] => do
    let vmax ← natIn 1 1000 w3
    let accel ← natIn 1 1000 w4
    let gain ← natIn 1 255 w5
    let deadband ← natIn 0 500 w6
    let settleCount ← natIn 1 15 w7
    let period ← natIn 0 255 w8
    if w1.toInt < w2.toInt then
      pure { softMin := w1.toInt, softMax := w2.toInt, vmax, accel, gain, deadband, settleCount, period }
    else none
  | _ => none

def MotionRecord.words (m : MotionRecord) : List Word :=
  [intWord m.softMin, intWord m.softMax, natWord m.vmax, natWord m.accel, natWord m.gain, natWord m.deadband,
   natWord m.settleCount, natWord m.period]

/-- R61, R62, but for the tests of the drive node against the others. -/
def readGuard : List Word → Option GuardRecord
  | [w1, w2, w3, w4, w5, w6, w7] => do
    let drive ← natIn 0 30 w1
    let ageLimit ← natIn 1 255 w2
    let stallDemand ← natIn 1 1000 w3
    let stallTime ← natIn 1 255 w4
    let stallDist ← natIn 1 1000 w5
    let stowTol ← natIn 0 2000 w7
    pure { drive := Fin.ofNat 32 drive, ageLimit, stallDemand, stallTime, stallDist, stowPos := w6.toInt, stowTol }
  | _ => none

def GuardRecord.words (g : GuardRecord) : List Word :=
  [natWord g.drive.val, natWord g.ageLimit, natWord g.stallDemand, natWord g.stallTime, natWord g.stallDist,
   intWord g.stowPos, natWord g.stowTol]

/-- R94: the two tests that join fields. -/
def PresetRecord.joined (r : PresetRecord) : Bool :=
  (!r.present || r.height.isSome || r.bearing.isSome || r.elevation.isSome) &&
  (!r.searchAfter || (r.bearing.isSome && r.elevation.isSome))

/-- An angle of 0..hi, or absent. Every pattern but the absent marker's is read as the angle it writes
without a sign (R93, R94; log 40). -/
def angleOrAbsent (hi : Nat) (w : Word) : Option (Option Int) :=
  if w.toInt = absentMarker then some none
  else if w.toNat ≤ hi then some (some (w.toNat : Int)) else none

/-- R93, R94. -/
def readPreset : List Word → Option PresetRecord
  | [w1, w2, w3, w4, w5] => do
    let present ← yesNo w1
    let searchAfter ← yesNo w5
    let height ← numOrAbsent 0 32767 w2
    let bearing ← angleOrAbsent 35999 w3
    let elevation ← numOrAbsent (-9000) 9000 w4
    let r : PresetRecord := { present, height, bearing, elevation, searchAfter }
    if r.joined then pure r else none
  | _ => none

def PresetRecord.words (r : PresetRecord) : List Word :=
  [flagWord r.present, intWord (absentOr r.height), intWord (absentOr r.bearing), intWord (absentOr r.elevation),
   flagWord r.searchAfter]

/-- R106, R107. -/
def readSearch : List Word → Option SearchRecord
  | [w1, w2, w3, w4, w5, w6, w7, w8, w9] => do
    let s0 ← natIn 5 500 w1
    let smin ← natIn 1 50 w2
    let samples ← natIn 1 16 w3
    let improve ← numIn 0 100 w4
    let window ← numIn 50 3000 w5
    let floor ← numIn 0 1000 w6
    let repeakDrop ← numIn 1 200 w7
    let maxProbes ← natIn 1 255 w8
    let suspendLimit ← natIn 1 600 w9
    if smin ≤ s0 then
      pure { s0, smin, samples, improve, window, floor, repeakDrop, maxProbes, suspendLimit }
    else none
  | _ => none

def SearchRecord.words (r : SearchRecord) : List Word :=
  [natWord r.s0, natWord r.smin, natWord r.samples, intWord r.improve, intWord r.window, intWord r.floor,
   intWord r.repeakDrop, natWord r.maxProbes, natWord r.suspendLimit]

/-- R96, R97. -/
def readPointing : List Word → Option PointingRecord
  | [w1, w2, w3, w4, w5] => do
    let declination ← numIn (-3000) 3000 w1
    let clearHeight ← numIn 0 15000 w2
    let safeHeight ← numIn clearHeight 15000 w3
    let jogTimeout ← natIn 5 200 w4
    let phaseTimeout ← natIn 5 600 w5
    pure { declination, clearHeight, safeHeight, jogTimeout, phaseTimeout }
  | _ => none

def PointingRecord.words (r : PointingRecord) : List Word :=
  [intWord r.declination, intWord r.clearHeight, intWord r.safeHeight, natWord r.jogTimeout, natWord r.phaseTimeout]

/-- R20: the test that joins function and value. -/
def LineRecord.driveable (r : LineRecord) : Bool := !decide (r.function = .output) || decide (r.value ≤ 1)

/-- R19, R20. -/
def readLine : List Word → Option LineRecord
  | [w1, w2, w3, w4] => do
    let function ← lineFunctionOf w1.toInt
    let invert ← yesNo w2
    let filter ← finIn 3 w3
    let value ← natIn 0 47 w4
    let r : LineRecord := { function, invert, filter, value }
    if function ≠ .estop ∧ r.driveable then pure r else none
  | _ => none

def LineRecord.words (r : LineRecord) : List Word :=
  [intWord (lineFunctionCode r.function), flagWord r.invert, natWord r.filter.val, natWord r.value]

/-- R151: the fields. -/
def readPort : List Word → Option PortRecord
  | [w1, w2] => do
    let state ← portStateOf w1.toInt
    let mask ← setIn 8 w2
    pure { state, mask }
  | _ => none

def PortRecord.words (r : PortRecord) : List Word := [intWord (portStateCode r.state), r.mask.setWidth 16]

/-- R184. -/
def readReport : List Word → Option ReportRecord
  | [w1, w2] => do
    let period ← natIn 10 6000 w1
    let enables ← setIn 6 w2
    pure { period, enables }
  | _ => none

def ReportRecord.words (r : ReportRecord) : List Word := [natWord r.period, r.enables.setWidth 16]

end Sys2Proof.Machine
end

