-- ==== Sys2Proof/Machine/Pointing.lean ====
section
/-! DEFINITION. Pointing (R93 to R104): AIM with its pan goal, and GOTO. -/

namespace Sys2Proof.Machine

/-! ### The pan goal (R100) -/

/-- R100, step 1: the site angle, brought into 0..35999. -/
def siteAngle (bearing heading declination : Int) : Int := (bearing - (heading + declination)).emod 36000

/-- Does a position lie within the soft limits? -/
def MotionRecord.reaches (m : MotionRecord) (p : Int) : Bool := decide (m.softMin ≤ p) && decide (p ≤ m.softMax)

/-- R100, steps 2 to 4: the pan goal, or none when no candidate is kept. -/
def panChoice (m : MotionRecord) (p angle : Int) : Option Int :=
  let other := angle - 36000
  match m.reaches angle, m.reaches other with
  | true, true => some (if (angle - p).natAbs ≤ (other - p).natAbs then angle else other)
  | true, false => some angle
  | false, true => some other
  | false, false => none

/-- R100: the pan goal of a preset with a bearing. -/
def aimPan (c : Ctx) (bearing : Int) : Option Int :=
  panChoice c.tab.motion.pan (c.pos .pan) (siteAngle bearing (c.sen.value 3) c.tab.pointing.declination)

/-- R99: the goals an AIM of the preset claims. -/
def aimGoals (c : Ctx) (r : PresetRecord) : Axis → Option Int
  | .mast => r.height
  | .pan => r.bearing.bind (aimPan c)
  | .tilt => r.elevation

/-- R93: the axes the preset moves. -/
def PresetRecord.moves (r : PresetRecord) : Axis → Bool
  | .mast => r.height.isSome
  | .pan => r.bearing.isSome
  | .tilt => r.elevation.isSome

/-- Has the sender rights on every axis named (R155)? -/
def mayMoveAll (t : Tables) (sender : Node) (named : Axis → Bool) : Bool :=
  axisList.all fun x => !named x || t.mayMove sender x

/-! ### AIM (R99 to R102) -/

/-- R99, steps 2 to 9: the first check that fails. -/
def aimChecks (c : Ctx) (sender : Node) (r : PresetRecord) (a : Acting) : Option Result :=
  if !c.operating then some .notStarted
  else if !r.present then some .emptyPreset
  else if !mayMoveAll c.tab sender r.moves then some .noRights
  else if r.bearing.isSome && !c.sen.fresh 3 then some .noHeading
  else if r.bearing.isSome && !c.posFresh .pan then some .noPosition
  else if r.bearing.isSome && (aimGoals c r .pan).isNone then some .outOfTravel
  else if r.elevation.any fun e => !c.tab.motion.tilt.reaches e then some .outOfTravel
  else claimChecks c .aim r.moves a

/-- R102: an AIM is accepted: claims, runtime, reply, search-after. -/
def Acting.acceptAim (c : Ctx) (sender : Node) (n : Fin 16) (r : PresetRecord) (a : Acting) : Acting :=
  let goals := aimGoals c r
  let a := a.claimAim c goals
  let a := { a with pointing :=
    { lastPreset := some n
      snapshot := if r.bearing.isSome then some (c.sen.value 3) else none
      pending := if r.searchAfter then some sender else none } }
  let a := a.reply c sender .aim (if anyClamped c.tab goals then .clamped else .done) []
  a.searchAfter c

/-- R99: an AIM frame. -/
def Acting.takeAim (c : Ctx) (sender : Node) (ws : List Word) (a : Acting) : Acting :=
  match ws with
  | [w] =>
    match finIn 15 w with
    | none => a.reply c sender .aim .badValue []
    | some n =>
      let r := c.tab.presets[n]
      match aimChecks c sender r a with
      | some result => a.reply c sender .aim result []
      | none => a.acceptAim c sender n r
  | _ => a.reply c sender .aim .badValue []

/-! ### GOTO (R104) -/

/-- R104: the goals of a GOTO frame. -/
def gotoGoals (mast pan tilt : Word) : Axis → Option Int
  | .mast => presentOf mast.toInt
  | .pan => presentOf pan.toInt
  | .tilt => presentOf tilt.toInt

/-- R104: the first check that fails. -/
def gotoChecks (c : Ctx) (sender : Node) (goal : Axis → Option Int) (a : Acting) : Option Result :=
  let named := fun x => (goal x).isSome
  if !axisList.any named then some .badValue
  else if !c.operating then some .notStarted
  else if !mayMoveAll c.tab sender named then some .noRights
  else claimChecks c .aim named a

/-- R104: a GOTO is accepted. -/
def Acting.acceptGoto (c : Ctx) (sender : Node) (goal : Axis → Option Int) (a : Acting) : Acting :=
  let a := a.claimAim c goal
  let a := { a with pointing := { a.pointing with pending := none } }
  a.reply c sender .goto (if anyClamped c.tab goal then .clamped else .done) []

/-- R104: a GOTO frame. -/
def Acting.takeGoto (c : Ctx) (sender : Node) (ws : List Word) (a : Acting) : Acting :=
  match ws with
  | [mast, pan, tilt] =>
    let goal := gotoGoals mast pan tilt
    match gotoChecks c sender goal a with
    | some result => a.reply c sender .goto result []
    | none => a.acceptGoto c sender goal
  | _ => a.reply c sender .goto .badValue []

end Sys2Proof.Machine
end

