-- ==== Sys2Proof/Machine/Image.lean ====
section
/-! DEFINITION. The sensor image (R4 to R14): the pairs of a SAMPLE, ageing, and the hand-offs of a value
taken and of a value gone STALE. -/

namespace Sys2Proof.Machine

/-- Replaces one quantity record. -/
def Sensed.setQuantity (q : Fin 24) (r : QuantityRun) (s : Sensed) : Sensed := { s with image := s.image.set q r }

/-- R7: a value is taken. -/
def QuantityRun.take (e : QuantityEntry) (v : Int) (r : QuantityRun) : QuantityRun :=
  { r with value := v, state := .fresh, age := some (e.maxAge * 10000) }

/-- R12: a value is not taken. -/
def QuantityRun.fault (r : QuantityRun) : QuantityRun := { r with faults := bumpTo Config.byteMax r.faults }

/-- R10: a FRESH record becomes STALE; the value is kept. -/
def QuantityRun.goStale (r : QuantityRun) : QuantityRun := { r with state := .stale, age := none }

/-- The value that a pair's word stands for: a signed word (R147), but that the patterns above the absent
marker's (R6) stand for angles above 32767 in a record whose range goes so far, as HEADING's 0..35999 does
(R2; log 40). -/
def QuantityEntry.reading (e : QuantityEntry) (w : Word) : Int :=
  if 32768 < w.toNat ∧ (w.toNat : Int) ≤ e.hi then (w.toNat : Int) else w.toInt

/-- R5, R6: does a pair pass its checks? -/
def QuantityEntry.takes (e : QuantityEntry) (sender : Node) (v : Int) : Bool :=
  (decide (e.source.val = 31) || decide (e.source = sender)) && decide (e.lo ≤ v) && decide (v ≤ e.hi)

/-- R8, R27: a taken value is handed to the lines block (log 45), the rule banks, with the permit change and the
actions that their groups bring, and then the peak search. DESIGN CHOICE (log 46): R8 and R112 give no order, so
that a group on RX_LEVEL that inhibits TRACK suspends the search before it takes the value. -/
def Part.valueTaken (q : Fin 24) (v : Int) (p : Part) : Part :=
  let p := p.formLines.evaluateFor q
  (if q = 8 then p.acting fun c a => a.searchLevel c v else p).settle

/-- The axis whose position a quantity is (R60). -/
def axisOfQuantity (q : Fin 24) : Option Axis :=
  if q = 0 then some .mast else if q = 1 then some .pan else if q = 2 then some .tilt else none

/-- R10, R27, R78: a record has gone from FRESH to STALE, and is handed to the lines block (log 45), the rule banks,
with the permit change and the actions that their groups bring, axis control, the mast-down guard and the peak
search. DESIGN CHOICE: R10 gives no order; the rule banks come before axis control and the search (log 46), and
an axis is faulted before the guard looks at the mast (log 41). -/
def Part.wentStale (q : Fin 24) (p : Part) : Part :=
  let p := p.formLines.evaluateFor q
  let p := match axisOfQuantity q with
    | some .mast => p.acting fun c a => a.losePosition c .mast
    | some x => (p.acting fun c a => a.losePosition c x).acting Acting.guardMast
    | none => p
  if q = 8 then p.acting fun c a => a.enterCause c fun k => { k with levelStale := true } else p

/-- R4 to R8: one pair of a SAMPLE. -/
def Part.takePair (sender : Node) (q : Fin 24) (v : Int) (p : Part) : Part :=
  let r := p.sen.image[q]
  let e := p.tab.quantity q
  if e.takes sender v then { p with sen := p.sen.setQuantity q (r.take e v) }.valueTaken q v
  else { p with sen := p.sen.setQuantity q r.fault }

/-- R4: the pairs of an admitted SAMPLE, in frame order. -/
def Part.takePairs (sender : Node) : List Word → Part → Part
  | q :: v :: rest, p =>
    let k := Fin.ofNat 24 q.toNat
    Part.takePairs sender rest (p.takePair sender k ((p.tab.quantity k).reading v))
  | _, p => p

/-- R10: the age of a quantity runs out. -/
def Part.ageExpired (q : Fin 24) (p : Part) : Part :=
  let r := p.sen.image[q]
  if r.age.isSome then { p with sen := p.sen.setQuantity q r.goStale }.wentStale q else p

end Sys2Proof.Machine
end

