-- ==== Sys2Proof/Machine/Lines.lean ====
section
/-! DEFINITION. The discrete lines (R19 to R34): the input filter, ESTOP, LAMP_TEST, LINES_SET, and the
write of a line record. -/

namespace Sys2Proof.Machine

/-- R22: the raw level of a line at the given pin levels. -/
def LineRecord.rawLevel (r : LineRecord) (pins : BitVec 8) (k : Fin 8) : Bool := xor (pins.getLsbD k.val) r.invert

/-- R22: one sample of an input line. -/
def LineFilter.sample (ms : Nat) (raw : Bool) (f : LineFilter) : LineFilter :=
  if raw = f.level then { f with run := 0 }
  else if ms ≤ f.run + 1 then { level := raw, run := 0 }
  else { f with run := f.run + 1 }

/-- R22: the filter states after a sampling instant. -/
def sampledFilters (t : Tables) (pins : BitVec 8) (fs : Vector (Option LineFilter) 8) : Vector (Option LineFilter) 8 :=
  Vector.ofFn fun k =>
    let r := t.line k
    if isInputFunction r.function then
      (fs[k]).map fun f => f.sample (filterTime r.filter) (r.rawLevel pins k)
    else fs[k]

/-- R24: a change of ESTOP is handed to axis control, the permit set and management (log 39). -/
def Part.estopChanged (p : Part) : Part :=
  let on := p.sen.estop
  let p := if on then p.acting Acting.cutOffAll else p
  p.formPermit.acting fun c a => a.raise c .estopChange [flagWord on]

/-- R22, R23, R24: one sampling instant: the filters, the one change of the line set that they make, and
ESTOP. -/
def Part.sampleLines (pins : BitVec 8) (p : Part) : Part :=
  let before := p.sen.estop
  let p := { p with sen := { p.sen with
    pins := pins, sampleTimer := some Config.samplePeriod, filters := sampledFilters p.tab pins p.sen.filters } }.formLines
  if p.sen.estop = before then p else p.estopChanged

/-- R30: a LAMP_TEST frame; its lamps follow in the line set. -/
def Part.lampTest (ws : List Word) (p : Part) : Part × Result :=
  match ws with
  | [on, off] =>
    match yesNo on, yesNo off with
    | some on, some off => ({ p with sen := { p.sen with testOn := on, testOff := off } }, .done)
    | _, _ => (p, .badValue)
  | _ => (p, .badValue)

/-- R31: a line record under the mask and the values. -/
def LineRecord.underSet (mask values : BitVec 8) (k : Fin 8) (r : LineRecord) : LineRecord :=
  if mask.getLsbD k.val ∧ r.function = .output then { r with value := if values.getLsbD k.val then 1 else 0 } else r

/-- R31: is every line named in the mask an OUTPUT? -/
def Tables.allOutputs (t : Tables) (mask : BitVec 8) : Bool :=
  (List.finRange 8).all fun k => !mask.getLsbD k.val || decide ((t.line k).function = .output)

/-- R31: a LINES_SET frame. -/
def Part.linesSet (ws : List Word) (p : Part) : Part × Result :=
  match ws with
  | [m, v] =>
    match setIn 8 m, setIn 8 v with
    | some mask, some values =>
      let lines := Vector.ofFn fun k => (p.tab.lines[k]).underSet mask values k
      ({ p with tab := { p.tab with lines := lines } }, if p.tab.allOutputs mask then .done else .partialDone)
    | _, _ => (p, .badValue)
  | _ => (p, .badValue)

/-- R21: the filter state of a line after a write that replaces its record. -/
def rewrittenFilter (old new : LineRecord) (pin : Bool) (f : Option LineFilter) : Option LineFilter :=
  if !isInputFunction new.function then none
  else
    match isInputFunction old.function, f with
    | true, some f => some { level := xor f.level (xor old.invert new.invert), run := 0 }
    | _, _ => some { level := xor pin new.invert, run := 0 }

/-- R20, R21: a TABLE_WRITE to LINE; the pins are those that stand at the write. -/
def Part.writeLine (index : Int) (fields : List Word) (p : Part) : Part × Result :=
  if ¬(0 ≤ index ∧ index ≤ 7) then (p, .badIndex)
  else if index = 0 then (p, .fixedLine)
  else match readLine fields with
    | none => (p, .badValue)
    | some r =>
      let k := Fin.ofNat 8 index.toNat
      let f := rewrittenFilter (p.tab.line k) r (p.sen.pins.getLsbD k.val) p.sen.filters[k]
      ({ p with
          tab := { p.tab with lines := p.tab.lines.set k r }
          sen := { p.sen with filters := p.sen.filters.set k f } }, .done)

end Sys2Proof.Machine
end

