-- ==== Sys2Proof/Machine/Tables.lean ====
section
/-! DEFINITION. Table access (R182, R183): the write of every table with its owner's checks and effects,
and the read of every table with its runtime words. -/

namespace Sys2Proof.Machine

/-- A change of the loaded tables alone. -/
def Part.tabled (f : Tables → Tables) (p : Part) : Part := { p with tab := f p.tab }

/-- Does an index lie within 0..hi? -/
def indexIn (hi index : Int) : Bool := decide (0 ≤ index) && decide (index ≤ hi)

/-! ### NODE (R156) -/

/-- R156: the node table after a write. -/
def Tables.setNode (t : Tables) (n : Node) (e : NodeEntry) : Tables := { t with nodes := t.nodes.set n e }

/-- R156: does some entry hold present yes, port C and role MAINT? -/
def Tables.keepsMaint (t : Tables) : Bool :=
  (List.finRange 32).any fun n =>
    (t.node n).present && decide ((t.node n).port = .c) && decide ((t.node n).role = .maint)

/-- The capacity of a node's rate meter, in milliframes; a node not present has none (R160). -/
def NodeEntry.capacity (e : NodeEntry) : Nat := if e.present then e.burst * 1000 else 0

/-- R156. -/
def Part.writeNode (index : Int) (fields : List Word) (p : Part) : Part × Result :=
  let n : Node := Fin.ofNat 32 index.toNat
  if !indexIn 30 index || decide (n = p.tab.own) then (p, .badIndex)
  else match readNode fields with
    | none => (p, .badValue)
    | some e =>
      let t := p.tab.setNode n e
      if !t.keepsMaint then (p, .selfCutoff)
      else ({ p with tab := t, sen := { p.sen with meters := p.sen.meters.set n e.capacity } }, .done)

/-! ### QUANTITY (R13, R14) -/

/-- R13: does the new range contain the soft limits of the axis whose position the quantity is? -/
def QuantityEntry.holdsLimits (t : Tables) (q : Fin 24) (e : QuantityEntry) : Bool :=
  match axisOfQuantity q with
  | some x => decide (e.lo ≤ (t.motion.get x).softMin) && decide ((t.motion.get x).softMax ≤ e.hi)
      && decide (e.lo ≤ (t.motion.get x).softMax) && decide ((t.motion.get x).softMin ≤ e.hi)
  | none => true

/-- R14: a FRESH record whose kept value lies outside the new range becomes STALE. -/
def Part.rangeChanged (q : Fin 24) (e : QuantityEntry) (p : Part) : Part :=
  let r := p.sen.image[q]
  if r.state = .fresh ∧ ¬(e.lo ≤ r.value ∧ r.value ≤ e.hi) then
    { p with sen := p.sen.setQuantity q r.goStale }.wentStale q
  else p

/-- R13, R14. -/
def Part.writeQuantity (index : Int) (fields : List Word) (p : Part) : Part × Result :=
  let q : Fin 24 := Fin.ofNat 24 index.toNat
  if !indexIn 23 index || decide (index = 11) then (p, .badIndex)
  else match readQuantity fields with
    | none => (p, .badValue)
    | some e =>
      if e.source = p.tab.own ∨ e.holdsLimits p.tab q = false then (p, .badValue)
      else ((p.tabled fun t => { t with quantities := t.quantities.set q e }).rangeChanged q e, .done)

/-! ### RULE_A, RULE_B (R36, R37) -/

/-- Replaces one rule of a bank. -/
def Tables.setRule (t : Tables) (which : Bank) (k : Fin 48) (r : Rule) : Tables :=
  match which with
  | .a => { t with ruleA := t.ruleA.set k r }
  | .b => { t with ruleB := t.ruleB.set k r }

/-- R36, R37. -/
def Part.writeRule (which : Bank) (index : Int) (fields : List Word) (p : Part) : Part × Result :=
  if !indexIn 47 index then (p, .badIndex)
  else if p.tab.active = which then (p, .activeBank)
  else match readRule fields with
    | none => (p, .badValue)
    | some r => (p.tabled fun t => t.setRule which (Fin.ofNat 48 index.toNat) r, .done)

/-! ### AXIS_MOTION, AXIS_GUARD (R62, R63) -/

/-- R62: may the records of an axis in this state be written? -/
def AxisState.writable (s : AxisState) : Bool := decide (s = .stopped) || decide (s = .fault)

/-- R62, R63. -/
def Part.writeMotion (index : Int) (fields : List Word) (p : Part) : Part × Result :=
  match axisOf index with
  | none => (p, .badIndex)
  | some x =>
    if !(p.act.axes.get x).state.writable then (p, .inUse)
    else match readMotion fields with
      | none => (p, .badValue)
      | some m =>
        let q := p.tab.quantity (positionOf x)
        if q.lo ≤ m.softMin ∧ m.softMax ≤ q.hi then
          (p.tabled fun t => { t with motion := t.motion.set x m }, .done)
        else (p, .badValue)

/-- R62: does the drive node clash with the own number or another axis's drive node? -/
def driveClashes (t : Tables) (x : Axis) (g : GuardRecord) : Bool :=
  decide (g.drive = t.own) || axisList.any fun y => decide (y ≠ x) && decide ((t.guard.get y).drive = g.drive)

/-- R63, R169: the drive node of an axis has changed: the new drive is NOT_READY, has the drive age limit
to report in OPERATING, and a DEMAND for the old one leaves the queue. -/
def Acting.newDrive (c : Ctx) (x : Axis) (a : Acting) : Acting :=
  let a := a.tune x fun r =>
    { r with drive := .notReady, driveAge := if c.operating then .running (c.tab.guard.get x).ageTime else r.driveAge }
  { a with out := a.out.withdrawDemand x }

/-- R62, R63. -/
def Part.writeGuard (index : Int) (fields : List Word) (p : Part) : Part × Result :=
  match axisOf index with
  | none => (p, .badIndex)
  | some x =>
    if !(p.act.axes.get x).state.writable then (p, .inUse)
    else match readGuard fields with
      | none => (p, .badValue)
      | some g =>
        if driveClashes p.tab x g then (p, .badValue)
        else
          let old := (p.tab.guard.get x).drive
          let p := p.tabled fun t => { t with guard := t.guard.set x g }
          (if g.drive = old then p else p.acting fun c a => a.newDrive c x, .done)

/-! ### PRESET, SEARCH, POINTING (R94, R107, R97) -/

/-- R94. -/
def Part.writePreset (index : Int) (fields : List Word) (p : Part) : Part × Result :=
  if !indexIn 15 index then (p, .badIndex)
  else match readPreset fields with
    | none => (p, .badValue)
    | some r => (p.tabled fun t => { t with presets := t.presets.set (Fin.ofNat 16 index.toNat) r }, .done)

/-- R107. -/
def Part.writeSearch (index : Int) (fields : List Word) (p : Part) : Part × Result :=
  if index ≠ 0 then (p, .badIndex)
  else if p.act.search.state.running then (p, .inUse)
  else match readSearch fields with
    | none => (p, .badValue)
    | some r => (p.tabled fun t => { t with search := r }, .done)

/-- R97: the write, with the immediate zero of a mast that the new clear height blocks. -/
def Part.writePointing (index : Int) (fields : List Word) (p : Part) : Part × Result :=
  if index ≠ 0 then (p, .badIndex)
  else match readPointing fields with
    | none => (p, .badValue)
    | some r => ((p.tabled fun t => { t with pointing := r }).acting Acting.guardMast, .done)

/-! ### PORT, REPORT (R151, R152, R184) -/

/-- R152: port D leaves CLOSED in OPERATING: each axis sends an immediate zero (R77). -/
def Acting.reopenDrives (c : Ctx) (a : Acting) : Acting :=
  a.shift c (immediateZeros c everyAxis) (fun _ r => r.zeroed)

/-- R152: the state of a port has changed from `old`. -/
def Part.portChanged (k : Port) (old : PortState) (p : Part) : Part :=
  let now := (p.tab.ports.get k).state
  if now = old then p
  else
    let p := p.acting fun c a => a.emit c fun t v o => o.judgeWaiting t v k now
    if k = .d ∧ old = .closed ∧ p.ctx.operating then p.acting Acting.reopenDrives else p

/-- R151, R152. -/
def Part.writePort (index : Int) (fields : List Word) (p : Part) : Part × Result :=
  match portOf index with
  | none => (p, .badIndex)
  | some k =>
    match readPort fields with
    | none => (p, .badValue)
    | some r =>
      if k = .c ∧ r.state = .closed then (p, .selfCutoff)
      else if k = .d ∧ r.state = .closed ∧ p.ctx.operating then (p, .inUse)
      else
        let old := (p.tab.ports.get k).state
        ((p.tabled fun t => { t with ports := t.ports.set k r }).portChanged k old, .done)

/-- R184: the write restarts the status timer. -/
def Part.writeReport (index : Int) (fields : List Word) (p : Part) : Part × Result :=
  if index ≠ 0 then (p, .badIndex)
  else match readReport fields with
    | none => (p, .badValue)
    | some r =>
      ((p.tabled fun t => { t with report := r }).acting fun _ a =>
        { a with out := { a.out with statusTimer := some (r.period * 10000) } }, .done)

/-! ### TABLE_WRITE and TABLE_READ -/

/-- R182: a TABLE_WRITE by its payload. -/
def Part.tableWrite (ws : List Word) (p : Part) : Part × Result :=
  match ws with
  | id :: index :: fields =>
    match id.toInt with
    | 1 => p.writeNode index.toInt fields
    | 2 => p.writeQuantity index.toInt fields
    | 3 => p.writeRule .a index.toInt fields
    | 4 => p.writeRule .b index.toInt fields
    | 5 => p.writeMotion index.toInt fields
    | 6 => p.writeGuard index.toInt fields
    | 7 => p.writePreset index.toInt fields
    | 8 => p.writeSearch index.toInt fields
    | 9 => p.writePointing index.toInt fields
    | 10 => p.writeLine index.toInt fields
    | 11 => p.writePort index.toInt fields
    | 12 => p.writeReport index.toInt fields
    | _ => (p, .badTable)
  | _ => (p, .badValue)

/-- R157: the fields and the meter's count in whole frames. -/
def Part.nodeWords (n : Node) (p : Part) : List Word :=
  let e := p.tab.node n
  e.words ++ [natWord (if e.present then p.sen.meters[n] / 1000 else 0)]

/-- R15. -/
def Part.quantityWords (q : Fin 24) (p : Part) : List Word :=
  let r := p.sen.image[q]
  (p.tab.quantity q).words ++ [intWord r.value, intWord (quantityStateCode r.state), natWord r.faults]

/-- R38: a rule of the standby bank, or an unused one, reads state NONE with counters 0. -/
def Part.ruleWords (which : Bank) (k : Fin 48) (p : Part) : List Word :=
  let r := (p.tab.bank which)[k]
  let g := if r.used ∧ which = p.tab.active then p.sen.groupOf k.val else none
  r.words ++
    match g with
    | some g => [intWord (groupStateCode g.state), natWord g.trueRun, natWord g.falseRun]
    | none => [0, 0, 0]

/-- R64. -/
def Part.motionWords (x : Axis) (p : Part) : List Word :=
  let r := p.act.axes.get x
  (p.tab.motion.get x).words ++
    [intWord (axisStateCode r.state), intWord (ownerCode r.owner), intWord (absentOr r.goal), intWord r.vPrev]

/-- R64. -/
def Part.guardWords (x : Axis) (p : Part) : List Word :=
  let r := p.act.axes.get x
  (p.tab.guard.get x).words ++ [intWord (driveStateCode r.drive), r.driveCause, intWord (faultCauseCode r.faultCause)]

/-- R98. -/
def Part.pointingWords (p : Part) : List Word :=
  let r := p.act.pointing
  p.tab.pointing.words ++
    [intWord (absentOr (r.lastPreset.map fun n => (n.val : Int))), intWord (absentOr r.snapshot), flagWord r.pending.isSome]

/-- The two words of a position that may be absent. -/
def panTiltWords (g : Option PanTilt) : List Word :=
  [intWord (absentOr (g.map (·.pan))), intWord (absentOr (g.map (·.tilt)))]

/-- R109, index 1. -/
def SearchRun.words (s : SearchRun) : List Word :=
  [intWord (searchStateCode s.state), intWord (failureReasonCode s.reason),
   intWord (axisCode (match s.turn with | .pan => .pan | .tilt => .tilt)), intWord (if s.positive then 1 else -1),
   natWord s.step, natWord s.count] ++ panTiltWords s.centre ++ panTiltWords s.best ++
  [intWord (absentOr s.bestLevel), intWord (absentOr s.peak), natWord s.repeaks]

/-- R118: an entry of the probe history, or held no with five absent markers. -/
def SearchRun.probeWords (k : Nat) (s : SearchRun) : List Word :=
  match s.history[k]? with
  | some e => [1, intWord e.goal.pan, intWord e.goal.tilt, intWord e.level, flagWord e.accepted, natWord e.step]
  | none => 0 :: List.replicate 5 (intWord absentMarker)

/-- R32. -/
def Part.lineWords (k : Fin 8) (p : Part) : List Word := (p.tab.line k).words ++ [flagWord (p.sen.lineBit k)]

/-- R154: the frames waiting in the port's queue. -/
def Output.waiting (o : Output) : Port → Nat
  | .c => o.waitingC
  | .s => o.sensorQueue.length
  | .d => o.driveQueue.length

/-- R154. -/
def Part.portWords (k : Port) (p : Part) : List Word :=
  (p.tab.ports.get k).words ++ [natWord (p.act.out.waiting k)]

/-- R184. -/
def Part.reportWords (p : Part) : List Word := p.tab.report.words ++ [p.act.out.seen.setWidth 16]

/-- The words of an entry whose index lies within 0..hi, or BAD_INDEX. -/
def entryWords (hi index : Int) (f : Nat → List Word) : Result × List Word :=
  if indexIn hi index then (.done, f index.toNat) else (.badIndex, [])

/-- R183: the result and the words of a TABLE_READ. -/
def Part.tableRead (id index : Int) (p : Part) : Result × List Word :=
  match id with
  | 1 => entryWords 31 index fun k => p.nodeWords (Fin.ofNat 32 k)
  | 2 => entryWords 23 index fun k => p.quantityWords (Fin.ofNat 24 k)
  | 3 => entryWords 47 index fun k => p.ruleWords .a (Fin.ofNat 48 k)
  | 4 => entryWords 47 index fun k => p.ruleWords .b (Fin.ofNat 48 k)
  | 5 => (axisOf index).elim (.badIndex, []) fun x => (.done, p.motionWords x)
  | 6 => (axisOf index).elim (.badIndex, []) fun x => (.done, p.guardWords x)
  | 7 => entryWords 15 index fun k => (p.tab.presets[Fin.ofNat 16 k]).words
  | 8 => entryWords 1 index fun k => if k = 0 then p.tab.search.words else p.act.search.words
  | 9 => entryWords 0 index fun _ => p.pointingWords
  | 10 => entryWords 7 index fun k => p.lineWords (Fin.ofNat 8 k)
  | 11 => (portOf index).elim (.badIndex, []) fun k => (.done, p.portWords k)
  | 12 => entryWords 0 index fun _ => p.reportWords
  | 13 => entryWords 7 index fun k => p.act.search.probeWords k
  | _ => (.badTable, [])

end Sys2Proof.Machine
end

