-- ==== Sys2Proof/Machine/Management.lean ====
section
/-! DEFINITION. Management: START (R179), the two resets (R180, R181), and the reads of counters and drop
records (R165, R167). -/

namespace Sys2Proof.Machine

/-! ### START -/

/-- R179, step 3. -/
def Tables.limitsSet (t : Tables) : Bool :=
  axisList.all fun x => decide ((t.motion.get x).softMin < (t.motion.get x).softMax)

/-- R179, step 4. -/
def Tables.drivesNamed (t : Tables) : Bool :=
  axisList.all fun x =>
    let e := t.node (t.guard.get x).drive
    e.present && decide (e.role = .drive) && decide (e.port = .d)

/-- R179: the first check that fails. -/
def startChecks (c : Ctx) : Option Result :=
  if c.operating then some .noChange
  else if c.tab.bankEmpty c.tab.active then some .emptyRules
  else if !c.tab.limitsSet then some .axisLimits
  else if !c.tab.drivesNamed then some .noDrive
  else if c.sen.estop then some .estopActive
  else none

/-- R71, R85: an axis at START. -/
def AxisRun.started (m : MotionRecord) (g : GuardRecord) (r : AxisRun) : AxisRun :=
  { r.zeroed with updateTimer := some m.updateTime, driveAge := .running g.ageTime }

/-- R179, step 2 of the effects. -/
def Acting.startAxes (c : Ctx) (a : Acting) : Acting :=
  a.shift c (immediateZeros c everyAxis) fun x r => r.started (c.tab.motion.get x) (c.tab.guard.get x)

/-- R179: a START that passes: mode, axes, permit set and actions. -/
def Part.starts (p : Part) : Part :=
  (({ p with sen := { p.sen with mode := .operating } }.acting Acting.startAxes).formPermit).startActions

/-- R179: a START frame. -/
def Part.startFrame (ws : List Word) (p : Part) : Part × Result :=
  if ws ≠ [] then (p, .badValue)
  else match startChecks p.ctx with
    | some r => (p, r)
    | none => (p.starts, .done)

/-! ### Resets -/

/-- R18: a quantity at a warm reset; LINES keeps its value and stays FRESH. -/
def warmImage (image : Vector QuantityRun 24) : Vector QuantityRun 24 :=
  (Vector.replicate 24 QuantityRun.start).set 11 (QuantityRun.linesStart (image[(11 : Fin 24)]).value)

/-- R168: every meter filled to its capacity. -/
def Tables.fullMeters (t : Tables) : Vector Nat 32 := Vector.ofFn fun n => (t.node n).capacity

/-- R18, R34, R54, R59, R168, R178: what the part senses after a warm reset, before the line set is
written; the filters and the pins are kept (R34). -/
def Sensed.warm (t : Tables) (s : Sensed) : Sensed :=
  { s with
    mode := .unconfigured, image := warmImage s.image, testOn := false, testOff := false
    groups := t.startGroups, permit := 0, meters := t.fullMeters, refillTimer := some Config.refillPeriod }

/-- R181, steps 1 and 2. -/
def Part.warm (p : Part) : Part :=
  { tab := p.tab, sen := p.sen.warm p.tab, act := Acting.start p.tab.search.s0 p.tab.report.period }

/-- R181: a RESET frame of a node: the reset, the REPLY, and the one arrival of the line set. -/
def Part.resetFrame (sender : Node) (ws : List Word) (p : Part) : Part :=
  if ws ≠ [] then p.reply sender .reset .badValue []
  else
    let p := p.warm.reply sender .reset .done []
    p.takeLines p.lineSet

/-- R33: the filter states started from the first sample, when every line but L0 is a plain INPUT. -/
def firstFilters (pins : BitVec 8) : Vector (Option LineFilter) 8 :=
  Vector.ofFn fun k => some { level := pins.getLsbD k.val, run := 0 }

/-- R17, R33, R168, R178, R180: what the part senses after a power-on reset and its first sample. -/
def Sensed.powerOn (t : Tables) (pins : BitVec 8) : Sensed :=
  { mode := .unconfigured, held := false, pins := pins
    image := (Vector.replicate 24 QuantityRun.start).set 11 (QuantityRun.linesStart pins.toNat)
    filters := firstFilters pins, testOn := false, testOff := false, groups := [], permit := 0
    meters := t.fullMeters, sampleTimer := some Config.samplePeriod, refillTimer := some Config.refillPeriod }

/-- R180: a power-on reset with the strap levels and the first sample's pin levels. -/
def Part.powerOn (straps : BitVec 2) (pins : BitVec 8) : Part :=
  let t := Tables.default straps
  let p : Part := { tab := t, sen := Sensed.powerOn t pins, act := Acting.start t.search.s0 t.report.period }
  if p.sen.estop then p.estopChanged else p

/-- R180: the reset input is taken low: nothing is taken and nothing is sent (log 10). -/
def Part.hold (p : Part) : Part :=
  { p with sen := { p.sen with held := true }, act := { p.act with out := { p.act.out with tx := ⟨none, none, none⟩ } } }

/-! ### Counters and drop records (R165, R167) -/

/-- R165: the ten counters of a port, and the part with them set to 0. -/
def Part.readCounters (ws : List Word) (p : Part) : Part × Result × List Word :=
  match ws with
  | [w] =>
    match portOf w.toInt with
    | some k =>
      let o := p.act.out
      ({ p with act := { p.act with out := { o with counters := o.counters.set k Counters.zero } } },
        .done, (o.counters.get k).words)
    | none => (p, .badValue, [])
  | _ => (p, .badValue, [])

/-- R167: both records, and the part with them emptied. -/
def Part.readDrops (ws : List Word) (p : Part) : Part × Result × List Word :=
  if ws ≠ [] then (p, .badValue, [])
  else
    let o := p.act.out
    ({ p with act := { p.act with out := { o with dropA := none, dropB := none } } }, .done,
      dropWords o.dropA ++ dropWords o.dropB)

end Sys2Proof.Machine
end

