-- ==== Sys2Proof/Machine/Admission.lean ====
section
/-! DEFINITION. Admission (R158 to R163): the arrival checks, the meters, routing, and the taking of a
consumed frame by the block that owns its kind. -/

namespace Sys2Proof.Machine

/-! ### Taking a consumed frame -/

/-- A result answered by a REPLY (R148). -/
def answer (f : Frame) (r : Part × Result) : Part := r.1.reply f.src f.kind r.2 []

/-- A command of the acting side, with its result. -/
def Part.doing (f : Ctx → Acting → Acting × Result) (p : Part) : Part × Result :=
  let r := f p.ctx p.act
  ({ p with act := r.1 }, r.2)

/-- A command that carries no payload; with one it is answered BAD_VALUE (R145). -/
def Part.bare (ws : List Word) (f : Ctx → Acting → Acting × Result) (p : Part) : Part × Result :=
  if ws ≠ [] then (p, .badValue) else p.doing f

/-- A command that names an axis, or 3 for all (R70, R90). -/
def Part.naming (ws : List Word) (f : (Axis → Bool) → Ctx → Acting → Acting × Result) (p : Part) : Part × Result :=
  match ws with
  | [w] =>
    match namedAxes w with
    | some named => p.doing (f named)
    | none => (p, .badValue)
  | _ => (p, .badValue)

/-- R81: a JOG frame. -/
def Part.jogFrame (sender : Node) (ws : List Word) (p : Part) : Part × Result :=
  match ws with
  | [w, rate] =>
    match axisOf w.toInt with
    | some x => p.doing fun c a => a.jog c sender x rate.toInt
    | none => (p, .badValue)
  | _ => (p, .badValue)

/-- R123: a SEARCH_END frame. -/
def Acting.searchEndFrame (c : Ctx) (a : Acting) : Acting × Result :=
  if a.search.state.running then (a.endSearch c .idle .none .ended, .done) else (a, .noChange)

/-- R56: a BANK_SWAP frame. -/
def Part.swapFrame (ws : List Word) (p : Part) : Part × Result :=
  match ws with
  | [w] =>
    match bankOf w.toInt with
    | some which => p.bankSwap which
    | none => (p, .badValue)
  | _ => (p, .badValue)

/-- R185: a READ_STATUS frame is answered by the STATUS alone. -/
def Part.readStatus (f : Frame) (p : Part) : Part :=
  if f.payload ≠ [] then answer f (p, .badValue) else p.acting Acting.requestStatus

/-- R183: a TABLE_READ frame. -/
def Part.tableReadFrame (f : Frame) (p : Part) : Part :=
  match f.payload with
  | [id, index] => let r := p.tableRead id.toInt index.toInt; p.reply f.src f.kind r.1 r.2
  | _ => answer f (p, .badValue)

/-- A read that replies with words. -/
def reporting (f : Frame) (r : Part × Result × List Word) : Part := r.1.reply f.src f.kind r.2.1 r.2.2

/-- The axis whose guard record names a node as its drive node (R83, R84). -/
def Tables.axisOfDrive (t : Tables) (n : Node) : Option Axis :=
  axisList.find? fun x => decide ((t.guard.get x).drive = n)

/-- R84: a DRIVE_STATUS is taken by the axis that names its source. -/
def Part.takeDriveStatus (sender : Node) (ws : List Word) (p : Part) : Part :=
  match ws, p.tab.axisOfDrive sender with
  | [state, cause], some x =>
    match driveStateOf state.toInt with
    | some d => p.acting fun c a => a.driveReport c x d cause
    | none => p
  | _, _ => p

/-- R83: a DEMAND taken as a jog. -/
def Part.takeDemand (f : Frame) (p : Part) : Part :=
  match f.payload, p.tab.axisOfDrive f.dst with
  | [rate], some x => answer f (p.doing fun c a => a.jog c f.src x rate.toInt)
  | _, _ => answer f (p, .noDrive)

/-- R162, case 1: a consumed frame is taken by the block that owns its kind. -/
def Part.take (f : Frame) (p : Part) : Part :=
  match f.kind with
  | .sample => p.takePairs f.src f.payload
  | .driveStatus => p.takeDriveStatus f.src f.payload
  | .aim => p.acting fun c a => a.takeAim c f.src f.payload
  | .goto => p.acting fun c a => a.takeGoto c f.src f.payload
  | .jog => answer f (p.jogFrame f.src f.payload)
  | .stop => answer f (p.naming f.payload fun named c a => (a.stopNamed c named, .done))
  | .stow => answer f (p.bare f.payload fun c a => a.stowFrame c)
  | .searchStart => answer f (p.bare f.payload fun c a => a.startSearch c f.src)
  | .searchEnd => answer f (p.bare f.payload fun c a => a.searchEndFrame c)
  | .clear => answer f (p.naming f.payload fun named c a => a.clearNamed c named)
  | .start => answer f (p.startFrame f.payload)
  | .reset => p.resetFrame f.src f.payload
  | .tableWrite => answer f (p.tableWrite f.payload)
  | .tableRead => p.tableReadFrame f
  | .bankSwap => answer f (p.swapFrame f.payload)
  | .readStatus => p.readStatus f
  | .readCounters => reporting f (p.readCounters f.payload)
  | .readDrops => reporting f (p.readDrops f.payload)
  | .linesSet => answer f (p.linesSet f.payload)
  | .lampTest => answer f (p.lampTest f.payload)
  | .demand | .nodeData | .status | .reply | .event => p

/-! ### The arrival checks -/

/-- R159: the kinds a role may send to the part. -/
def Role.kinds : Role → List Kind
  | .maint => [.aim, .goto, .jog, .stop, .stow, .searchStart, .searchEnd, .clear, .start, .reset, .tableWrite,
      .tableRead, .bankSwap, .readStatus, .readCounters, .readDrops, .linesSet, .lampTest]
  | .console => [.aim, .goto, .jog, .stop, .stow, .searchStart, .searchEnd, .clear, .start, .tableRead, .readStatus,
      .readCounters, .readDrops, .lampTest]
  | .observer => [.readStatus, .tableRead]
  | .sensor => [.sample]
  | .drive => [.driveStatus]

/-- R159, R162: where a frame goes. -/
inductive Bound where
  | part
  | local
  | far (e : NodeEntry)
  | nowhere
  deriving DecidableEq, Repr

/-- R159, R162: the case of a destination, for a frame that arrives at a port. -/
def Tables.bound (t : Tables) (port : Port) (dst : Node) : Bound :=
  let e := t.node dst
  if dst.val = 31 ∨ dst = t.own then .part
  else if !e.present then .nowhere
  else if e.port = port then .local
  else .far e

/-- May the role command drives directly (R159)? -/
def Role.jogs (r : Role) : Bool := decide (r = .maint) || decide (r = .console)

/-- R159: step 5, the kind of an arrival against role and destination. -/
def kindAllowed (src : NodeEntry) (k : Kind) (b : Bound) : Bool :=
  match b with
  | .part => decide (k ∈ src.role.kinds)
  | .local => true
  | .far dst =>
    (decide (k = .demand) && src.role.jogs && decide (dst.role = .drive))
    || (decide (k = .nodeData) &&
        ((decide (src.role = .maint) && decide (dst.port ≠ .c))
         || ((decide (src.role = .sensor) || decide (src.role = .drive)) && decide (dst.port = .c))))
  | .nowhere =>
    decide (k ∈ src.role.kinds) || (decide (k = .demand) && src.role.jogs)
    || (decide (k = .nodeData) && (decide (src.role = .maint) || decide (src.role = .sensor) || decide (src.role = .drive)))

/-- R158: the first of steps 1 to 6 that fails. -/
def Part.arrivalCheck (port : Port) (f : Frame) (p : Part) : Option DropReason :=
  let src := p.tab.node f.src
  if !formOk p.tab.own f then some .badForm
  else if (p.tab.ports.get port).state = .closed then some .portClosed
  else if !src.present then some .unknownSource
  else if src.port ≠ port then some .wrongPort
  else if !kindAllowed src f.kind (p.tab.bound port f.dst) then some .kindNotAllowed
  else if p.sen.meters[f.src] < Config.frameTokens then some .overRate
  else none

/-- R161: an admitted frame spends its tokens. -/
def Sensed.spend (n : Node) (s : Sensed) : Sensed :=
  { s with meters := s.meters.set n (s.meters[n] - Config.frameTokens) }

/-! ### Routing (R162, R163, R175) -/

/-- R163: the priority a frame is forwarded or mirrored with. -/
def Tables.rewrite (t : Tables) (f : Frame) : Frame :=
  { f with prio := Fin.ofNat 8 (min f.prio.val (t.node f.src).cap) }

/-- R164, R166: a drop. -/
def Part.drop (d : DropRecord) (p : Part) : Part := p.acting fun c a => a.emit c fun t v o => o.drop t v d

/-- R175: is a copy of a consumed frame offered to the port C queue? -/
def Part.mirrors (port : Port) (f : Frame) (p : Part) : Bool :=
  (decide (f.kind = .sample) || decide (f.kind = .driveStatus)) && (p.tab.node f.src).mirror
    && decide (port ≠ .c) && decide (p.tab.ports.c.state = .opened)

/-- R162, case 1, and R175: a frame is consumed, and its copy is placed after it (log 19). -/
def Part.consume (port : Port) (f : Frame) (p : Part) : Part :=
  let q := p.take f
  if p.mirrors port f then q.acting fun c a => a.emit c fun t v o => o.mirror t v (p.tab.rewrite f) else q

/-- R162, case 4: NODE_DATA for a node on another port. -/
def Part.forward (port dest : Port) (f : Frame) (p : Part) : Part :=
  if (p.tab.ports.get port).state = .listen ∨ (p.tab.ports.get dest).state ≠ .opened then
    p.drop (dropOf .portClosed port f)
  else p.acting fun c a => a.emit c fun t v o => o.forward t v dest (p.tab.rewrite f)

/-- R162: routing of an admitted frame. -/
def Part.route (port : Port) (f : Frame) (p : Part) : Part :=
  match p.tab.bound port f.dst with
  | .part => p.consume port f
  | .local => p
  | .far e => if f.kind = .demand then p.takeDemand f else p.forward port e.port f
  | .nowhere => p.drop (dropOf .unknownDest port f)

/-! ### Arrivals -/

/-- R158: the arrival is counted before its checks. -/
def Part.received (port : Port) (p : Part) : Part :=
  { p with act := { p.act with out := p.act.out.countReceived port } }

/-- R158: the whole arrival of a frame. -/
def Part.arrive (port : Port) (f : Frame) (p : Part) : Part :=
  let p := p.received port
  match p.arrivalCheck port f with
  | some reason => p.drop (dropOf reason port f)
  | none => { p with sen := p.sen.spend f.src }.route port f

/-- R142, R145, R158: an arrival of words as received; words that are no frame are dropped as BAD_FORM. -/
def Part.arriveWords (port : Port) (framing : Bool) (ws : List Word) (p : Part) : Part :=
  match readWords framing ws with
  | some f => p.arrive port f
  | none =>
    (p.received port).drop { reason := .badForm, port := port, source := receivedSource ws, kind := receivedKind ws }

/-- The frame that a header, a kind and a payload spell. -/
def frameOf (h : Header) (k : Kind) (ws : List Word) : Frame :=
  { dst := h.dst, src := h.src, prio := h.prio, kind := k, payload := ws }

end Sys2Proof.Machine
end

