-- ==== Sys2Proof/Machine/Timers.lean ====
section
/-! DEFINITION. The expiries of the timers that are not axis control's alone (R122, R133, R160, R185), the
completion of a transmission (R174), and the passing of time (log 2, log 4). An expiry acts when its timer
runs, and is without effect when it is stopped (log 3). -/

namespace Sys2Proof.Machine

/-! ### Expiries -/

/-- R160: one meter after a refill; the meter of a node not present does not exist and is held at 0 (log 36). -/
def NodeEntry.refill (e : NodeEntry) (tokens : Nat) : Nat :=
  if e.present then min (tokens + e.rate * 10) e.capacity else tokens

/-- R160: the refill timer expires. -/
def Part.refill (p : Part) : Part :=
  if p.sen.refillTimer.isNone then p
  else { p with sen := { p.sen with
    refillTimer := some Config.refillPeriod
    meters := Vector.ofFn fun n => (p.tab.node n).refill p.sen.meters[n] } }

/-- R184, R185: the status timer expires, reloads and requests a STATUS. -/
def Acting.statusExpired (c : Ctx) (a : Acting) : Acting :=
  if a.out.statusTimer.isNone then a
  else
    let b := { a with out := { a.out with statusTimer := some (c.tab.report.period * 10000) } }
    b.requestStatus c

/-- R122: the suspend timer expires. -/
def Acting.suspendExpired (c : Ctx) (a : Acting) : Acting :=
  if a.search.timer.isSome then a.failSearch c .suspendLimit else a

/-- R133, R137: the phase timer expires. -/
def Acting.phaseExpired (c : Ctx) (a : Acting) : Acting :=
  if a.seq.timer.isSome then a.timeoutSequence c else a

/-- R174: the transmission of a port completes. -/
def Acting.transmissionDone (k : Port) (c : Ctx) (a : Acting) : Acting :=
  a.emit c fun t v o => o.complete t v k

/-! ### Time (log 2, log 4) -/

/-- The drive age timer as a timer. -/
def DriveAge.timer : DriveAge → Timer
  | .running left => some left
  | .stopped => none
  | .expired => none

/-- The timers of one axis, each with the command of its expiry. -/
def AxisRun.timers (x : Axis) (r : AxisRun) : List (Timer × Instr) :=
  [(r.driveAge.timer, .driveAgeExpiry x), (r.jogTimer, .jogTimerExpiry x), (r.stallTimer, .stallTimerExpiry x),
   (r.updateTimer, .updateExpiry x)]

/-- The transmission of a port as a timer. -/
def Output.txTimer (o : Output) (k : Port) : Timer × Instr := ((o.tx.get k).map (·.left), .transmissionComplete k)

/-- Every timer of the part, each with the command of its expiry, in the order in which those due at one
moment are taken (log 4). The sample that falls due finds the pins as last presented. -/
def Part.timers (p : Part) : List (Timer × Instr) :=
  [(p.sen.sampleTimer, Instr.inputSample p.sen.pins), (p.sen.refillTimer, Instr.refillTimerExpiry),
   (p.act.out.statusTimer, Instr.statusTimerExpiry)]
  ++ (List.finRange 24).map (fun q => ((p.sen.image[q]).age, Instr.ageExpiry q))
  ++ axisList.flatMap (fun x => (p.act.axes.get x).timers x)
  ++ [(p.act.seq.timer, Instr.phaseTimerExpiry), (p.act.search.timer, Instr.suspendTimerExpiry),
      p.act.out.txTimer .c, p.act.out.txTimer .s, p.act.out.txTimer .d]

/-- The first expiry that is due. -/
def Part.due (p : Part) : Option Instr := (p.timers.find? fun t => decide (t.1 = some 0)).map (·.2)

/-- The time until the next expiry, in µs. -/
def Part.untilNext (p : Part) : Option Nat := (p.timers.filterMap (·.1)).min?

/-- A timer after a time has passed. -/
def Timer.pass (d : Nat) (t : Timer) : Timer := t.map (· - d)

def DriveAge.pass (d : Nat) : DriveAge → DriveAge
  | .running left => .running (left - d)
  | .stopped => .stopped
  | .expired => .expired

def AxisRun.pass (d : Nat) (r : AxisRun) : AxisRun :=
  { r with
    jogTimer := r.jogTimer.pass d, stallTimer := r.stallTimer.pass d, updateTimer := r.updateTimer.pass d
    driveAge := r.driveAge.pass d }

def Transmission.pass (d : Nat) (t : Transmission) : Transmission := { t with left := t.left - d }

/-- Every running timer and transmission of the acting side after a time has passed. -/
def Acting.pass (d : Nat) (a : Acting) : Acting :=
  { axes := ⟨a.axes.mast.pass d, a.axes.pan.pass d, a.axes.tilt.pass d⟩
    pointing := a.pointing
    search := { a.search with timer := a.search.timer.pass d }
    seq := { a.seq with timer := a.seq.timer.pass d }
    lineWrites := a.lineWrites
    out := { a.out with
      statusTimer := a.out.statusTimer.pass d
      tx := ⟨a.out.tx.c.map (·.pass d), a.out.tx.s.map (·.pass d), a.out.tx.d.map (·.pass d)⟩ } }

/-- Every running timer after a time has passed. -/
def Part.pass (d : Nat) (p : Part) : Part :=
  { tab := p.tab
    sen := { p.sen with
      image := Vector.ofFn fun q => { p.sen.image[q] with age := (p.sen.image[q]).age.pass d }
      sampleTimer := p.sen.sampleTimer.pass d, refillTimer := p.sen.refillTimer.pass d }
    act := p.act.pass d }

end Sys2Proof.Machine
end

