-- ==== Sys2Proof/Machine/Commands.lean ====
section
/-! DEFINITION. The meaning of every command, one definition for each row of the table. A frame row is the
whole arrival of a frame of its kind (log 6). Every meaning ends in a next state. -/

namespace Sys2Proof.Machine

/-- A command's effect on the part: none while the reset input is held (R180, log 10); otherwise the effect,
and then the line set's arrivals that it caused (R23, R48; the order is log 14's, their number log 12's). -/
def Part.live (f : Part → Part) (p : Part) : Part := if p.sen.held then p else (f p).settle

/-- A command acts on the part, and leaves the queue as it is. -/
def State.run (f : Part → Part) (s : State) : Host.Outcome State Fault Refusal :=
  .next { s with part := s.part.live f }

/-- The pin levels as presented with a command (R21). -/
def Part.seePins (pins : BitVec 8) (p : Part) : Part := { p with sen := { p.sen with pins := pins } }

/-- R149: the table id of a rule bank. -/
def ruleTable : Bank → Word
  | .a => 3
  | .b => 4

/-- R180: the straps are read, every table and runtime state returns to its default, and the first sample is taken. -/
def execPowerOnReset (straps : BitVec 2) (pins : BitVec 8) (s : State) : Host.Outcome State Fault Refusal :=
  .next { s with part := Part.powerOn straps pins }

/-- R181. -/
def execReset (h : Header) (payload : List Word) (s : State) : Host.Outcome State Fault Refusal :=
  s.run fun p => p.arrive h.port (frameOf h .reset payload)

/-- R4. -/
def execSample (h : Header) (payload : List Word) (s : State) : Host.Outcome State Fault Refusal :=
  s.run fun p => p.arrive h.port (frameOf h .sample payload)

/-- R10. -/
def execAgeExpiry (q : Fin 24) (s : State) : Host.Outcome State Fault Refusal :=
  s.run fun p => p.ageExpired q

/-- R22: the sampling instant at which a filtered level changes (log 8). -/
def execFilteredLevelChange (pins : BitVec 8) (s : State) : Host.Outcome State Fault Refusal :=
  s.run fun p => p.sampleLines pins

/-- R84. -/
def execDriveStatus (h : Header) (payload : List Word) (s : State) : Host.Outcome State Fault Refusal :=
  s.run fun p => p.arrive h.port (frameOf h .driveStatus payload)

/-- R83. -/
def execConsoleDemand (h : Header) (payload : List Word) (s : State) : Host.Outcome State Fault Refusal :=
  s.run fun p => p.arrive h.port (frameOf h .demand payload)

/-- R162, case 4. -/
def execNodeDataForward (h : Header) (payload : List Word) (s : State) : Host.Outcome State Fault Refusal :=
  s.run fun p => p.arrive h.port (frameOf h .nodeData payload)

/-- R162, case 2 (log 7). -/
def execFrameIgnored (h : Header) (kind : Kind) (payload : List Word) (s : State) :
    Host.Outcome State Fault Refusal :=
  s.run fun p => p.arrive h.port (frameOf h kind payload)

/-- R158 (log 7). -/
def execFrameDropped (port : Port) (framing : Bool) (words : List Word) (s : State) :
    Host.Outcome State Fault Refusal :=
  s.run fun p => p.arriveWords port framing words

/-- R99. -/
def execAim (h : Header) (payload : List Word) (s : State) : Host.Outcome State Fault Refusal :=
  s.run fun p => p.arrive h.port (frameOf h .aim payload)

/-- R104. -/
def execGoto (h : Header) (payload : List Word) (s : State) : Host.Outcome State Fault Refusal :=
  s.run fun p => p.arrive h.port (frameOf h .goto payload)

/-- R81. -/
def execJog (h : Header) (payload : List Word) (s : State) : Host.Outcome State Fault Refusal :=
  s.run fun p => p.arrive h.port (frameOf h .jog payload)

/-- R70. -/
def execStop (h : Header) (payload : List Word) (s : State) : Host.Outcome State Fault Refusal :=
  s.run fun p => p.arrive h.port (frameOf h .stop payload)

/-- R128. -/
def execStow (h : Header) (payload : List Word) (s : State) : Host.Outcome State Fault Refusal :=
  s.run fun p => p.arrive h.port (frameOf h .stow payload)

/-- R110. -/
def execSearchStart (h : Header) (payload : List Word) (s : State) : Host.Outcome State Fault Refusal :=
  s.run fun p => p.arrive h.port (frameOf h .searchStart payload)

/-- R123. -/
def execSearchEnd (h : Header) (payload : List Word) (s : State) : Host.Outcome State Fault Refusal :=
  s.run fun p => p.arrive h.port (frameOf h .searchEnd payload)

/-- R90. -/
def execClear (h : Header) (payload : List Word) (s : State) : Host.Outcome State Fault Refusal :=
  s.run fun p => p.arrive h.port (frameOf h .clear payload)

/-- R179. -/
def execStart (h : Header) (payload : List Word) (s : State) : Host.Outcome State Fault Refusal :=
  s.run fun p => p.arrive h.port (frameOf h .start payload)

/-- R156. -/
def execTableWriteNode (h : Header) (index : Word) (fields : List Word) (s : State) :
    Host.Outcome State Fault Refusal :=
  s.run fun p => p.arrive h.port (frameOf h .tableWrite (1 :: index :: fields))

/-- R13, R14. -/
def execTableWriteQuantity (h : Header) (index : Word) (fields : List Word) (s : State) :
    Host.Outcome State Fault Refusal :=
  s.run fun p => p.arrive h.port (frameOf h .tableWrite (2 :: index :: fields))

/-- R36, R37. -/
def execTableWriteRule (h : Header) (bank : Bank) (index : Word) (fields : List Word) (s : State) :
    Host.Outcome State Fault Refusal :=
  s.run fun p => p.arrive h.port (frameOf h .tableWrite (ruleTable bank :: index :: fields))

/-- R62, R63. -/
def execTableWriteAxisMotion (h : Header) (index : Word) (fields : List Word) (s : State) :
    Host.Outcome State Fault Refusal :=
  s.run fun p => p.arrive h.port (frameOf h .tableWrite (5 :: index :: fields))

/-- R62, R63. -/
def execTableWriteAxisGuard (h : Header) (index : Word) (fields : List Word) (s : State) :
    Host.Outcome State Fault Refusal :=
  s.run fun p => p.arrive h.port (frameOf h .tableWrite (6 :: index :: fields))

/-- R94. -/
def execTableWritePreset (h : Header) (index : Word) (fields : List Word) (s : State) :
    Host.Outcome State Fault Refusal :=
  s.run fun p => p.arrive h.port (frameOf h .tableWrite (7 :: index :: fields))

/-- R107. -/
def execTableWriteSearch (h : Header) (index : Word) (fields : List Word) (s : State) :
    Host.Outcome State Fault Refusal :=
  s.run fun p => p.arrive h.port (frameOf h .tableWrite (8 :: index :: fields))

/-- R97. -/
def execTableWritePointing (h : Header) (index : Word) (fields : List Word) (s : State) :
    Host.Outcome State Fault Refusal :=
  s.run fun p => p.arrive h.port (frameOf h .tableWrite (9 :: index :: fields))

/-- R20, R21: the pins are those that stand at the write. -/
def execTableWriteLine (h : Header) (pins : BitVec 8) (index : Word) (fields : List Word) (s : State) :
    Host.Outcome State Fault Refusal :=
  s.run fun p => (p.seePins pins).arrive h.port (frameOf h .tableWrite (10 :: index :: fields))

/-- R151, R152. -/
def execTableWritePort (h : Header) (index : Word) (fields : List Word) (s : State) :
    Host.Outcome State Fault Refusal :=
  s.run fun p => p.arrive h.port (frameOf h .tableWrite (11 :: index :: fields))

/-- R184. -/
def execTableWriteReport (h : Header) (index : Word) (fields : List Word) (s : State) :
    Host.Outcome State Fault Refusal :=
  s.run fun p => p.arrive h.port (frameOf h .tableWrite (12 :: index :: fields))

/-- R182: the payload from its table id on. -/
def execTableWriteBadTable (h : Header) (payload : List Word) (s : State) : Host.Outcome State Fault Refusal :=
  s.run fun p => p.arrive h.port (frameOf h .tableWrite payload)

/-- R183. -/
def execTableRead (h : Header) (payload : List Word) (s : State) : Host.Outcome State Fault Refusal :=
  s.run fun p => p.arrive h.port (frameOf h .tableRead payload)

/-- R56. -/
def execBankSwap (h : Header) (payload : List Word) (s : State) : Host.Outcome State Fault Refusal :=
  s.run fun p => p.arrive h.port (frameOf h .bankSwap payload)

/-- R185. -/
def execReadStatus (h : Header) (payload : List Word) (s : State) : Host.Outcome State Fault Refusal :=
  s.run fun p => p.arrive h.port (frameOf h .readStatus payload)

/-- R165. -/
def execReadCounters (h : Header) (payload : List Word) (s : State) : Host.Outcome State Fault Refusal :=
  s.run fun p => p.arrive h.port (frameOf h .readCounters payload)

/-- R167. -/
def execReadDrops (h : Header) (payload : List Word) (s : State) : Host.Outcome State Fault Refusal :=
  s.run fun p => p.arrive h.port (frameOf h .readDrops payload)

/-- R31. -/
def execLinesSet (h : Header) (payload : List Word) (s : State) : Host.Outcome State Fault Refusal :=
  s.run fun p => p.arrive h.port (frameOf h .linesSet payload)

/-- R30. -/
def execLampTest (h : Header) (payload : List Word) (s : State) : Host.Outcome State Fault Refusal :=
  s.run fun p => p.arrive h.port (frameOf h .lampTest payload)

/-- R71. -/
def execUpdateExpiry (x : Axis) (s : State) : Host.Outcome State Fault Refusal :=
  s.run fun p => p.acting fun c a => a.updateExpired c x

/-- R82. -/
def execJogTimerExpiry (x : Axis) (s : State) : Host.Outcome State Fault Refusal :=
  s.run fun p => p.acting fun c a => a.jogExpired c x

/-- R88. -/
def execStallTimerExpiry (x : Axis) (s : State) : Host.Outcome State Fault Refusal :=
  s.run fun p => p.acting fun c a => a.stallExpired c x

/-- R85. -/
def execDriveAgeExpiry (x : Axis) (s : State) : Host.Outcome State Fault Refusal :=
  s.run fun p => p.acting fun c a => a.driveAgeExpired c x

/-- R122. -/
def execSuspendTimerExpiry (s : State) : Host.Outcome State Fault Refusal :=
  s.run fun p => p.acting Acting.suspendExpired

/-- R133. -/
def execPhaseTimerExpiry (s : State) : Host.Outcome State Fault Refusal :=
  s.run fun p => p.acting Acting.phaseExpired

/-- R160. -/
def execRefillTimerExpiry (s : State) : Host.Outcome State Fault Refusal :=
  s.run fun p => p.refill

/-- R185. -/
def execStatusTimerExpiry (s : State) : Host.Outcome State Fault Refusal :=
  s.run fun p => p.acting Acting.statusExpired

/-- R174. -/
def execTransmissionComplete (k : Port) (s : State) : Host.Outcome State Fault Refusal :=
  s.run fun p => p.acting (Acting.transmissionDone k)

/-- R22. -/
def execInputSample (pins : BitVec 8) (s : State) : Host.Outcome State Fault Refusal :=
  s.run fun p => p.sampleLines pins

/-- R180: the reset input is taken low (log 10). -/
def execResetInputAsserted (s : State) : Host.Outcome State Fault Refusal :=
  .next { s with part := s.part.hold }

end Sys2Proof.Machine
end

