-- ==== Sys2Proof/Machine/Dispatch.lean ====
section
/-! DEFINITION. The arms of exec: one direct call of a meaning for each constructor of Instr. -/

namespace Sys2Proof.Machine

def exec (i : Instr) (s : State) : Host.Outcome State Fault Refusal :=
  match i with
  | .powerOnReset straps pins => Sys2Proof.Machine.execPowerOnReset straps pins s
  | .reset h payload => Sys2Proof.Machine.execReset h payload s
  | .sample h payload => Sys2Proof.Machine.execSample h payload s
  | .ageExpiry q => Sys2Proof.Machine.execAgeExpiry q s
  | .filteredLevelChange pins => Sys2Proof.Machine.execFilteredLevelChange pins s
  | .driveStatus h payload => Sys2Proof.Machine.execDriveStatus h payload s
  | .consoleDemand h payload => Sys2Proof.Machine.execConsoleDemand h payload s
  | .nodeDataForward h payload => Sys2Proof.Machine.execNodeDataForward h payload s
  | .frameIgnored h kind payload => Sys2Proof.Machine.execFrameIgnored h kind payload s
  | .frameDropped port framing words => Sys2Proof.Machine.execFrameDropped port framing words s
  | .aim h payload => Sys2Proof.Machine.execAim h payload s
  | .goto h payload => Sys2Proof.Machine.execGoto h payload s
  | .jog h payload => Sys2Proof.Machine.execJog h payload s
  | .stop h payload => Sys2Proof.Machine.execStop h payload s
  | .stow h payload => Sys2Proof.Machine.execStow h payload s
  | .searchStart h payload => Sys2Proof.Machine.execSearchStart h payload s
  | .searchEnd h payload => Sys2Proof.Machine.execSearchEnd h payload s
  | .clear h payload => Sys2Proof.Machine.execClear h payload s
  | .start h payload => Sys2Proof.Machine.execStart h payload s
  | .tableWriteNode h index fields => Sys2Proof.Machine.execTableWriteNode h index fields s
  | .tableWriteQuantity h index fields => Sys2Proof.Machine.execTableWriteQuantity h index fields s
  | .tableWriteRule h bank index fields => Sys2Proof.Machine.execTableWriteRule h bank index fields s
  | .tableWriteAxisMotion h index fields => Sys2Proof.Machine.execTableWriteAxisMotion h index fields s
  | .tableWriteAxisGuard h index fields => Sys2Proof.Machine.execTableWriteAxisGuard h index fields s
  | .tableWritePreset h index fields => Sys2Proof.Machine.execTableWritePreset h index fields s
  | .tableWriteSearch h index fields => Sys2Proof.Machine.execTableWriteSearch h index fields s
  | .tableWritePointing h index fields => Sys2Proof.Machine.execTableWritePointing h index fields s
  | .tableWriteLine h pins index fields => Sys2Proof.Machine.execTableWriteLine h pins index fields s
  | .tableWritePort h index fields => Sys2Proof.Machine.execTableWritePort h index fields s
  | .tableWriteReport h index fields => Sys2Proof.Machine.execTableWriteReport h index fields s
  | .tableWriteBadTable h payload => Sys2Proof.Machine.execTableWriteBadTable h payload s
  | .tableRead h payload => Sys2Proof.Machine.execTableRead h payload s
  | .bankSwap h payload => Sys2Proof.Machine.execBankSwap h payload s
  | .readStatus h payload => Sys2Proof.Machine.execReadStatus h payload s
  | .readCounters h payload => Sys2Proof.Machine.execReadCounters h payload s
  | .readDrops h payload => Sys2Proof.Machine.execReadDrops h payload s
  | .linesSet h payload => Sys2Proof.Machine.execLinesSet h payload s
  | .lampTest h payload => Sys2Proof.Machine.execLampTest h payload s
  | .updateExpiry x => Sys2Proof.Machine.execUpdateExpiry x s
  | .jogTimerExpiry x => Sys2Proof.Machine.execJogTimerExpiry x s
  | .stallTimerExpiry x => Sys2Proof.Machine.execStallTimerExpiry x s
  | .driveAgeExpiry x => Sys2Proof.Machine.execDriveAgeExpiry x s
  | .suspendTimerExpiry => Sys2Proof.Machine.execSuspendTimerExpiry s
  | .phaseTimerExpiry => Sys2Proof.Machine.execPhaseTimerExpiry s
  | .refillTimerExpiry => Sys2Proof.Machine.execRefillTimerExpiry s
  | .statusTimerExpiry => Sys2Proof.Machine.execStatusTimerExpiry s
  | .transmissionComplete k => Sys2Proof.Machine.execTransmissionComplete k s
  | .inputSample pins => Sys2Proof.Machine.execInputSample pins s
  | .resetInputAsserted => Sys2Proof.Machine.execResetInputAsserted s

end Sys2Proof.Machine
end

