-- ==== Sys2Proof/Machine/Step.lean ====
section
/-! DEFINITION. The step of the block: the command at the front of the queue, or, with none waiting, the
next thing that time brings (log 2). -/

namespace Sys2Proof.Machine

/-- A time passes, and nothing else happens. -/
def State.elapse (d : Nat) (s : State) : State := { s with part := s.part.pass d }

/-- An empty queue (log 2): an expiry that is due is taken; with none due, time passes until the next one;
while the reset input is held, the block idles. -/
def State.idle (s : State) : Host.Outcome State Fault Refusal :=
  if s.part.sen.held then .next s
  else match s.part.due with
    | some i => exec i s
    | none =>
      match s.part.untilNext with
      | some d => .next (s.elapse d)
      | none => .next s

/-- One step. -/
def step (s : State) : Host.Outcome State Fault Refusal :=
  match s.pending with
  | [] => s.idle
  | i :: rest => exec i { s with pending := rest }

/-- A command at the front of the queue. -/
def State.withFront (i : Instr) (s : State) : State := { s with pending := i :: s.pending }

/-- The command that a word spells, put at the front of the queue; no word spells one, so the state is
unchanged. -/
def State.withFetchWord (s : State) (nbits w : Nat) : State :=
  match decodeTableWord nbits w with
  | some i => s.withFront i
  | none => s

end Sys2Proof.Machine
end

