-- ==== Sys2Proof/Safety.lean ====
section
/-! DEFINITION. What the statements speak of: when a frame is consumed, and the laws that hold of the part
between commands. Everything here is a decidable fact about plain data. -/

namespace Sys2Proof

open Sys2Proof.Machine

/-! ### The frames of the rows -/

/-- The arrival that a frame row of the table is (R158, log 6): its port and its frame. The words of a
FRAME_DROPPED bring one where they read as a frame (R145, log 7). -/
def Instr.arrival : Instr → Option (Port × Frame)
  | .reset h ws => some (h.port, frameOf h .reset ws)
  | .sample h ws => some (h.port, frameOf h .sample ws)
  | .driveStatus h ws => some (h.port, frameOf h .driveStatus ws)
  | .consoleDemand h ws => some (h.port, frameOf h .demand ws)
  | .nodeDataForward h ws => some (h.port, frameOf h .nodeData ws)
  | .frameIgnored h k ws => some (h.port, frameOf h k ws)
  | .frameDropped port framing ws => (readWords framing ws).map fun f => (port, f)
  | .aim h ws => some (h.port, frameOf h .aim ws)
  | .goto h ws => some (h.port, frameOf h .goto ws)
  | .jog h ws => some (h.port, frameOf h .jog ws)
  | .stop h ws => some (h.port, frameOf h .stop ws)
  | .stow h ws => some (h.port, frameOf h .stow ws)
  | .searchStart h ws => some (h.port, frameOf h .searchStart ws)
  | .searchEnd h ws => some (h.port, frameOf h .searchEnd ws)
  | .clear h ws => some (h.port, frameOf h .clear ws)
  | .start h ws => some (h.port, frameOf h .start ws)
  | .tableWriteNode h i fs => some (h.port, frameOf h .tableWrite (1 :: i :: fs))
  | .tableWriteQuantity h i fs => some (h.port, frameOf h .tableWrite (2 :: i :: fs))
  | .tableWriteRule h which i fs => some (h.port, frameOf h .tableWrite (ruleTable which :: i :: fs))
  | .tableWriteAxisMotion h i fs => some (h.port, frameOf h .tableWrite (5 :: i :: fs))
  | .tableWriteAxisGuard h i fs => some (h.port, frameOf h .tableWrite (6 :: i :: fs))
  | .tableWritePreset h i fs => some (h.port, frameOf h .tableWrite (7 :: i :: fs))
  | .tableWriteSearch h i fs => some (h.port, frameOf h .tableWrite (8 :: i :: fs))
  | .tableWritePointing h i fs => some (h.port, frameOf h .tableWrite (9 :: i :: fs))
  | .tableWriteLine h _ i fs => some (h.port, frameOf h .tableWrite (10 :: i :: fs))
  | .tableWritePort h i fs => some (h.port, frameOf h .tableWrite (11 :: i :: fs))
  | .tableWriteReport h i fs => some (h.port, frameOf h .tableWrite (12 :: i :: fs))
  | .tableWriteBadTable h ws => some (h.port, frameOf h .tableWrite ws)
  | .tableRead h ws => some (h.port, frameOf h .tableRead ws)
  | .bankSwap h ws => some (h.port, frameOf h .bankSwap ws)
  | .readStatus h ws => some (h.port, frameOf h .readStatus ws)
  | .readCounters h ws => some (h.port, frameOf h .readCounters ws)
  | .readDrops h ws => some (h.port, frameOf h .readDrops ws)
  | .linesSet h ws => some (h.port, frameOf h .linesSet ws)
  | .lampTest h ws => some (h.port, frameOf h .lampTest ws)
  | .powerOnReset _ _ | .ageExpiry _ | .filteredLevelChange _ | .updateExpiry _ | .jogTimerExpiry _
  | .stallTimerExpiry _ | .driveAgeExpiry _ | .suspendTimerExpiry | .phaseTimerExpiry | .refillTimerExpiry
  | .statusTimerExpiry | .transmissionComplete _ | .inputSample _ | .resetInputAsserted => none

/-- The part with the pin levels that a write of a line record brings with it (R21). -/
def Instr.seenBy : Instr → Part → Part
  | .tableWriteLine _ pins _ _, p => p.seePins pins
  | _, p => p

end Sys2Proof

namespace Sys2Proof.Machine

/-! ### When a frame is taken -/

/-- The frame passes steps 1 to 4 and 6 of R158: well formed, at a port not CLOSED, from a present node of
that port, with a frame's worth of tokens. -/
abbrev Part.admits (p : Part) (port : Port) (f : Frame) : Prop :=
  formOk p.tab.own f = true ∧ (p.tab.ports.get port).state ≠ .closed ∧ (p.tab.node f.src).present = true
    ∧ (p.tab.node f.src).port = port ∧ Config.frameTokens ≤ p.sen.meters[f.src]

/-- R141, R162: the destination is 31 or the part's own number. -/
abbrev Part.owns (p : Part) (dst : Node) : Prop := dst.val = 31 ∨ dst = p.tab.own

/-- R158, R159, R162: a frame of this kind is admitted and consumed by the part, which is not held in
reset (R180). -/
abbrev Part.consumes (p : Part) (h : Header) (k : Kind) (ws : List Word) : Prop :=
  p.sen.held = false ∧ p.admits h.port (frameOf h k ws) ∧ p.owns h.dst ∧ k ∈ (p.tab.node h.src).role.kinds

/-- The part after an admission, before routing: the arrival is counted (R158) and its tokens are spent
(R161). -/
def Part.entered (port : Port) (src : Node) (p : Part) : Part :=
  { tab := p.tab, sen := p.sen.spend src, act := { p.act with out := p.act.out.countReceived port } }

/-- The part as an admission of the frame leaves it. -/
def State.entered (s : State) (h : Header) : Part := s.part.entered h.port h.src

/-- The state that a command leaves when its effect leaves the part `p`: the line set's arrivals that it
caused follow (R23, R48), at most 64 of them (log 12), and the queue is as it was. -/
def State.settled (s : State) (p : Part) : State := { s with part := p.settle }

/-- The state after a command that leaves the part `p` and is answered by a REPLY without words (R148), placed
before the line set's arrivals (log 14). -/
def State.answered (s : State) (h : Header) (k : Kind) (r : Result) (p : Part) : State :=
  s.settled (p.reply h.src k r [])

/-- R4 to R7: a quantity after the pairs of a SAMPLE that name it. -/
def QuantityRun.afterPairs (e : QuantityEntry) (sender : Node) (q : Fin 24) : List Word → QuantityRun → QuantityRun
  | id :: v :: rest, r =>
    QuantityRun.afterPairs e sender q rest
      (if id.toNat = q.val then (if e.takes sender (e.reading v) then r.take e (e.reading v) else r.fault) else r)
  | _, r => r

/-! ### The laws of the queues (R169, R170, R173) -/

/-- At most sixteen frames wait for port C, of which at most one is a STATUS (R170). -/
abbrev Output.lawC (o : Output) : Prop :=
  o.waitingC ≤ Config.placesC ∧ o.urgent.countP CEntry.isStatus = 0 ∧ o.routine.countP CEntry.isStatus ≤ 1

/-- No axis has two DEMANDs waiting, each waiting DEMAND is addressed to its axis's drive node, and at most
five NODE_DATA wait (R169). -/
abbrev Output.lawD (t : Tables) (o : Output) : Prop :=
  o.driveQueue.countP (DEntry.isDemandOf .mast) ≤ 1 ∧ o.driveQueue.countP (DEntry.isDemandOf .pan) ≤ 1
    ∧ o.driveQueue.countP (DEntry.isDemandOf .tilt) ≤ 1
    ∧ (o.driveQueue.all fun e => match e with
        | .demand x f => decide (f.dst = (t.guard.get x).drive)
        | .data _ => true) = true
    ∧ o.driveQueue.countP DEntry.isData ≤ Config.placesData

/-- R62: three axes, three drive nodes. -/
abbrev Tables.drivesDiffer (t : Tables) : Prop :=
  t.guard.mast.drive ≠ t.guard.pan.drive ∧ t.guard.mast.drive ≠ t.guard.tilt.drive
    ∧ t.guard.pan.drive ≠ t.guard.tilt.drive

/-- The laws of the three queues. -/
abbrev Part.queueLaw (p : Part) : Prop :=
  p.act.out.lawC ∧ p.act.out.lawD p.tab ∧ p.act.out.sensorQueue.length ≤ Config.placesS ∧ p.tab.drivesDiffer

/-! ### Meters, counters and LINES -/

/-- The drop counter of a reason (R164). -/
def Counters.of (k : Counters) : DropReason → Nat
  | .badForm => k.badForm
  | .portClosed => k.portClosed
  | .unknownSource => k.unknownSource
  | .wrongPort => k.wrongPort
  | .kindNotAllowed => k.kindNotAllowed
  | .overRate => k.overRate
  | .unknownDest => k.unknownDest
  | .queueFull => k.queueFull

/-- R160: every meter lies within its node's capacity. -/
abbrev Part.meterLaw (p : Part) : Prop := ∀ n : Fin 32, p.sen.meters[n] ≤ (p.tab.node n).capacity

/-- R164: the ten counters of a port stop at 65535. -/
abbrev Counters.bounded (k : Counters) : Prop :=
  k.received ≤ Config.counterMax ∧ k.sent ≤ Config.counterMax ∧ k.badForm ≤ Config.counterMax
    ∧ k.portClosed ≤ Config.counterMax ∧ k.unknownSource ≤ Config.counterMax ∧ k.wrongPort ≤ Config.counterMax
    ∧ k.kindNotAllowed ≤ Config.counterMax ∧ k.overRate ≤ Config.counterMax ∧ k.unknownDest ≤ Config.counterMax
    ∧ k.queueFull ≤ Config.counterMax

/-- R12, R164: every counter and fault count stops at its maximum. -/
abbrev Part.counterLaw (p : Part) : Prop :=
  p.act.out.counters.c.bounded ∧ p.act.out.counters.s.bounded ∧ p.act.out.counters.d.bounded
    ∧ ∀ q : Fin 24, (p.sen.image[q]).faults ≤ Config.byteMax

/-- R3, R23: LINES is FRESH, within 0..255, has no age timer, and its fault count stays 0; and every line set
that waits to be written into it lies within 0..255. -/
abbrev Part.linesLaw (p : Part) : Prop :=
  (p.sen.image[(11 : Fin 24)]).state = .fresh ∧ (p.sen.image[(11 : Fin 24)]).age = none
    ∧ (p.sen.image[(11 : Fin 24)]).faults = 0 ∧ 0 ≤ p.sen.lines ∧ p.sen.lines ≤ 255
    ∧ ∀ v ∈ p.act.lineWrites, 0 ≤ v ∧ v ≤ 255

/-! ### The axes -/

/-- R60, R62: the soft limits of an axis are in order, and within its position quantity's range. -/
abbrev Tables.limitsLaw (t : Tables) : Prop :=
  (axisList.all fun x =>
    decide ((t.motion.get x).softMin ≤ (t.motion.get x).softMax)
      && decide ((t.quantity (positionOf x)).lo ≤ (t.motion.get x).softMin)
      && decide ((t.motion.get x).softMax ≤ (t.quantity (positionOf x)).hi)) = true

/-- R65 at one axis: a goal is present exactly in MOVING, AT_GOAL and HELD, and lies within the soft limits;
a jog request exactly in JOGGING, within -vmax..+vmax; a fault cause exactly in FAULT; and STOPPED, STOPPING
and FAULT have no owner, and JOGGING has owner JOG. -/
abbrev AxisRun.law (m : MotionRecord) (r : AxisRun) : Prop :=
  r.goal.isSome = r.state.holdsGoal
    ∧ (r.goal.all fun g => decide (m.softMin ≤ g) && decide (g ≤ m.softMax)) = true
    ∧ (r.jog.isSome = true ↔ r.state = .jogging)
    ∧ (r.jog.all fun v => decide (-(m.vmax : Int) ≤ v) && decide (v ≤ m.vmax)) = true
    ∧ (r.faultCause = .none ↔ r.state ≠ .fault)
    ∧ (r.state = .stopped ∨ r.state = .stopping ∨ r.state = .fault → r.owner = .none)
    ∧ (r.state = .jogging ↔ r.owner = .jog)

/-- R65 at every axis. -/
abbrev Part.axisLaw (p : Part) : Prop :=
  p.act.axes.mast.law p.tab.motion.mast ∧ p.act.axes.pan.law p.tab.motion.pan
    ∧ p.act.axes.tilt.law p.tab.motion.tilt ∧ p.tab.limitsLaw

/-- R72, R87 at one axis: an axis that may move, or holds a goal, has a fresh position. -/
abbrev AxisRun.freshLaw (s : Sensed) (x : Axis) (r : AxisRun) : Prop :=
  r.state = .stopped ∨ r.state = .fault ∨ (s.image[positionOf x]).state = .fresh

/-- R72, R87 at every axis. -/
abbrev Part.freshLaw (p : Part) : Prop :=
  p.act.axes.mast.freshLaw p.sen .mast ∧ p.act.axes.pan.freshLaw p.sen .pan ∧ p.act.axes.tilt.freshLaw p.sen .tilt

/-! ### The demands -/

/-- R73, R74 at one axis: v_prev lies within -vmax..+vmax, and when it is not 0 its direction is in the
permit set and the axis is in a state that may move. -/
abbrev AxisRun.rateLaw (c : Ctx) (x : Axis) (r : AxisRun) : Prop :=
  -((c.tab.motion.get x).vmax : Int) ≤ r.vPrev ∧ r.vPrev ≤ (c.tab.motion.get x).vmax
    ∧ (r.vPrev ≠ 0 → hasDirection c.sen.permit (directionOf x r.vPrev) = true
        ∧ (r.state = .moving ∨ r.state = .atGoal ∨ r.state = .jogging ∨ r.state = .stopping))

/-- R54: the permit set is the set the rule forms from mode, ESTOP and groups. -/
abbrev Part.permitLaw (p : Part) : Prop := p.sen.permit = p.ctx.permitSet

/-- Every waiting DEMAND carries the v_prev of its axis (R73, R77). -/
abbrev Acting.demandLaw (a : Acting) : Prop :=
  (a.out.driveQueue.all fun e => match e with
    | .demand x f => decide (f.payload = [Word.ofInt (a.axes.get x).vPrev])
    | .data _ => true) = true

/-- The laws of the drive demands (R71, R73, R74); at a CLOSED port D nothing waits (R152, R176). -/
abbrev Part.rateLaw (p : Part) : Prop :=
  p.permitLaw ∧ p.act.axes.mast.rateLaw p.ctx .mast ∧ p.act.axes.pan.rateLaw p.ctx .pan
    ∧ p.act.axes.tilt.rateLaw p.ctx .tilt ∧ p.act.demandLaw
    ∧ (p.tab.ports.d.state = .closed → p.act.out.driveQueue = [])

/-! ### At rest -/

/-- R92, R178: an axis in UNCONFIGURED. -/
abbrev AxisRun.atRest (r : AxisRun) : Prop :=
  r.state = .stopped ∧ r.owner = .none ∧ r.goal = none ∧ r.jog = none ∧ r.vPrev = 0 ∧ r.faultCause = .none
    ∧ r.updateTimer = none ∧ r.jogTimer = none ∧ r.stallTimer = none ∧ r.driveAge = .stopped

/-- R178: what UNCONFIGURED leaves at rest: the axes, the search, the sequencer, pointing's pending search,
and the permit set. -/
abbrev Part.restLaw (p : Part) : Prop :=
  p.sen.mode = .unconfigured →
    p.act.axes.mast.atRest ∧ p.act.axes.pan.atRest ∧ p.act.axes.tilt.atRest ∧ p.act.search.state = .idle
      ∧ p.act.seq.state = .idle ∧ p.act.pointing.pending = none ∧ p.sen.permit = 0

/-- R24, R79: an axis `new` that was `old` before the assertion of ESTOP or a STOP_ALL: one in FAULT stays in it
with its cause; every other is STOPPED with no owner, goal or jog request and settle run 0; and v_prev is 0. -/
abbrev AxisRun.CutOff (old new : AxisRun) : Prop :=
  new.vPrev = 0 ∧ new.stallTimer = none
    ∧ (old.state = .fault → new.state = .fault ∧ new.faultCause = old.faultCause)
    ∧ (old.state ≠ .fault → new.state = .stopped ∧ new.owner = .none ∧ new.goal = none ∧ new.jog = none
      ∧ new.jogTimer = none ∧ new.settle = 0 ∧ new.faultCause = .none)

/-- The level that L0's filter, of 16 ms, takes at a sampling instant with the given pin levels (R19, R22). -/
def Sensed.estopAfter (pins : BitVec 8) (s : Sensed) : Bool :=
  match s.filters[(0 : Fin 8)] with
  | some f => (f.sample 16 (pins.getLsbD 0)).level
  | none => false

/-! ### What an axis sends, and what a claim leaves -/

/-- The frame of the axis waits for port D, or is in transmission there. -/
abbrev Output.sends (f : Frame) (x : Axis) (o : Output) : Prop :=
  DEntry.demand x f ∈ o.driveQueue ∨ o.tx.d.map (·.frame) = some f

/-- R68: the acting side `b` is the acting side `a` after a granted AIM claim with these goals: each axis that
has one stands or moves at its clamped goal under owner AIM; a running search whose pan or tilt was taken
is aborted (O39) and has released what it still owned; the sequence, the waiting DEMANDs, and every other axis are as
they were. -/
abbrev Acting.Aimed (c : Ctx) (goal : Axis → Option Int) (a b : Acting) : Prop :=
  let took := ((goal .pan).isSome = true ∧ a.axes.pan.owner = .search)
    ∨ ((goal .tilt).isSome = true ∧ a.axes.tilt.owner = .search)
  let taken := a.search.state.running = true ∧ took
  let claimed := a.claim c .aim goal
  b = { (if took then claimed.abortSearch c else claimed) with pointing := b.pointing }
  ∧ (∀ x, goal x = none → b.axes.get x =
      if taken ∧ (a.axes.get x).owner = .search then (a.axes.get x).released else a.axes.get x)
  ∧ (∀ x g, goal x = some g →
      let m := c.tab.motion.get x
      let g' := max m.softMin (min m.softMax g)
      (b.axes.get x).owner = .aim ∧ (b.axes.get x).goal = some g' ∧ (b.axes.get x).vPrev = (a.axes.get x).vPrev
        ∧ (b.axes.get x).state =
          (if (a.axes.get x).state = .atGoal ∧ (a.axes.get x).goal = some g' then .atGoal else .moving))
  ∧ (taken → b.search.state = .idle) ∧ (¬taken → b.search = a.search)
  ∧ b.seq = a.seq ∧ b.out.driveQueue = a.out.driveQueue

/-! ### A jog -/

/-- R81, R88: the acting side `b` is the acting side `a` after a granted JOG of axis `x` at a rate: the axis jogs,
its stall timer and the recorded position kept from MOVING and JOGGING; a
running search that owned it is aborted (O39) and has released its other axis; the sequence, the waiting DEMANDs, and
every other axis are as they were. -/
abbrev Acting.Jogged (c : Ctx) (x : Axis) (rate : Int) (a b : Acting) : Prop :=
  let m := c.tab.motion.get x
  let took := x ≠ .mast ∧ (a.axes.get x).owner = .search
  let taken := a.search.state.running = true ∧ took
  let jogged := fun old : AxisRun => { old with
    state := .jogging, owner := .jog, goal := none, settle := 0
    jog := some (max (-(m.vmax : Int)) (min m.vmax rate)), jogTimer := some (c.tab.pointing.jogTimeout * 10000)
    stallTimer := if old.state = .moving ∨ old.state = .jogging then old.stallTimer else none
    faultCause := .none }
  let claimed := a.shift c (fun _ => none) fun y old => if y = x then jogged old else old
  b = (if took then claimed.abortSearch c else claimed)
  ∧ ((b.axes.get x).state = .jogging ∧ (b.axes.get x).owner = .jog ∧ (b.axes.get x).goal = none
    ∧ (b.axes.get x).settle = 0 ∧ (b.axes.get x).jog = some (max (-(m.vmax : Int)) (min m.vmax rate))
    ∧ (b.axes.get x).jogTimer = some (c.tab.pointing.jogTimeout * 10000)
    ∧ (b.axes.get x).vPrev = (a.axes.get x).vPrev ∧ (b.axes.get x).updateTimer = (a.axes.get x).updateTimer)
  ∧ (∀ y, y ≠ x → b.axes.get y =
      if taken ∧ (a.axes.get y).owner = .search then (a.axes.get y).released else a.axes.get y)
  ∧ (taken → b.search.state = .idle) ∧ (¬taken → b.search = a.search)
  ∧ b.seq = a.seq ∧ b.out.driveQueue = a.out.driveQueue

/-! ### An end of the search -/

/-- R125: the acting side `b` is the acting side `a` after a running search has ended in this state with this
reason: its buffer, ring, causes and timer are emptied, its peak level is absent (log 37, R108 over R124 and
R125), its other results and its history are kept, every axis it owned is released and every other axis is as it
was, and SEARCH_END is among the events seen (with no STATUS among the urgent frames waiting, R170). -/
abbrev Acting.SearchOver (st : SearchState) (reason : FailureReason) (a b : Acting) : Prop :=
  b.search = { a.search with
      state := st, reason := reason, buffer := [], ring := [], causes := .empty, timer := none, peak := none }
    ∧ (∀ x, b.axes.get x =
        if (a.axes.get x).owner = .search then (a.axes.get x).released else a.axes.get x)
    ∧ (a.out.urgent.countP CEntry.isStatus = 0 → (b.out.seen &&& eventBit .searchEnd) ≠ 0)
    ∧ b.seq = a.seq ∧ b.out.driveQueue = a.out.driveQueue

/-! ### A STOW -/

/-- R130: does the axis stand AT_GOAL at its stow position, clamped into its soft limits? -/
abbrev Acting.stowed (c : Ctx) (x : Axis) (a : Acting) : Prop :=
  (a.axes.get x).state = .atGoal
    ∧ (a.axes.get x).goal = some (max (c.tab.motion.get x).softMin
        (min (c.tab.motion.get x).softMax (c.tab.guard.get x).stowPos))

/-- R129, R130: the state that the sequencer reaches at the start of a STOW, by the axes that already stand
AT_GOAL at their stow positions. -/
def Acting.firstPhase (c : Ctx) (a : Acting) : SequenceState :=
  if ¬a.stowed c .tilt then .stowTilt
  else if ¬a.stowed c .pan then .stowPan
  else if ¬a.stowed c .mast then .stowMast
  else .idle

end Sys2Proof.Machine
end

