-- ==== Sys2Proof/Certificates/Slice0/Obligations.lean ====
section
/-! DEFINITION. The statements for the provers, in the order of OBLIGATIONS.json. A frame command is stated
on the part as its admission leaves it (`State.entered`: the arrival counted, its tokens spent), and answers
`s.answered h k r p`: the effect left the part `p`, the REPLY to the frame was placed, and the line set's
arrivals followed. Two choices of the model stand in every `s.settled` and `s.answered`: at most 64 arrivals
of the line set follow one command (log 12), and the REPLY is placed after the hand-offs of its effect and
before those arrivals (log 14). Three stand in every change of axis records (`Acting.shift`, spelled in O15 and
O34, which a claim, a release and the end of a client are): it takes the axes in the order mast, pan, tilt
(log 45), so too the DEMANDs that one event sends (log 24), and the STATUS requests follow the DEMANDs (log 14).
That an immediate zero (`immediateZeros`) is sent in OPERATING alone is the model's reading (log 11). -/

open Sys2Proof Sys2Proof.Machine

/-! ### The block -/

/-- O1. The step takes the command at the front of the queue: it is exec of that command on the state with
the queue's rest; and exec answers a next state for every command in every state, with the queue as it was. -/
def Obligations.StepTakesFrontCommand : Prop :=
  ∀ (c : Instr) (s : State), (s.withFront c).pending = c :: s.pending ∧ step (s.withFront c) = exec c s
    ∧ ∃ t : State, exec c s = .next t ∧ t.pending = s.pending

/-- O2. Model's choice (log 2): with no command waiting, an expiry that is due is taken; with none due, time
passes to the next one; a part held in reset idles. While time passes every timer and transmission that runs
loses it (R9, R71, R146), one that is stopped stays stopped, and all else is as it was. -/
def Obligations.EmptyQueueLetsTimePass : Prop :=
  ∀ s : State, s.pending = [] →
    (s.part.sen.held = true → step s = .next s)
      ∧ (s.part.sen.held = false → ∀ i, s.part.due = some i → step s = exec i s)
      ∧ (s.part.sen.held = false → s.part.due = none → ∀ d, s.part.untilNext = some d →
          0 < d ∧ step s = .next (s.elapse d) ∧ ∀ timer ∈ s.part.timers, ∀ left, timer.1 = some left → d ≤ left)
      ∧ ∀ d : Nat,
        let lose := fun t : Timer => t.map (· - d)
        let sending := fun t : Option Transmission => t.map fun x => { x with left := x.left - d }
        let axis := fun r : AxisRun => { r with
          jogTimer := lose r.jogTimer, stallTimer := lose r.stallTimer, updateTimer := lose r.updateTimer
          driveAge := match r.driveAge with
            | .running left => .running (left - d)
            | .stopped => .stopped
            | .expired => .expired }
        let n := s.part.sen
        let a := s.part.act
        s.elapse d = { s with part := { s.part with
          sen := { n with
            image := n.image.map fun r => { r with age := lose r.age }
            sampleTimer := lose n.sampleTimer, refillTimer := lose n.refillTimer }
          act := { a with
            axes := ⟨axis a.axes.mast, axis a.axes.pan, axis a.axes.tilt⟩
            search := { a.search with timer := lose a.search.timer }
            seq := { a.seq with timer := lose a.seq.timer }
            out := { a.out with
              statusTimer := lose a.out.statusTimer
              tx := ⟨sending a.out.tx.c, sending a.out.tx.s, sending a.out.tx.d⟩ } } } }

/-! ### Resets and modes -/

/-- O3. The state after a power-on reset: no command waits, and the part is what a POWER_ON_RESET leaves
with the straps and pin levels of log 1 (model's choice); in it the mode is UNCONFIGURED, every axis, the
search, the sequencer and pointing are at their start, the permit set and the groups are empty, and every
quantity but LINES is NEVER with value 0. In those starts the stall position, the purpose, the state suspended
from and the probe goal are the model's choice (log 28). -/
def Obligations.ResetStateAsStated : Prop :=
  State.reset.pending = [] ∧ State.reset.part = Part.powerOn 0 State.resetPins
    ∧ State.reset.part.sen.mode = .unconfigured ∧ State.reset.part.sen.permit = 0
    ∧ State.reset.part.sen.groups = [] ∧ State.reset.part.sen.estop = false
    ∧ State.reset.part.act.axes = ⟨.start, .start, .start⟩
    ∧ State.reset.part.act.search = SearchRun.start 50 ∧ State.reset.part.act.seq = SequencerRun.start
    ∧ State.reset.part.act.pointing = PointingRun.start ∧ State.reset.part.act.out = Output.start 100
    ∧ ∀ q : Fin 24, q ≠ 11 → State.reset.part.sen.image[q] = QuantityRun.start

/-- O4. The laws of O56 to O60, which every step keeps, hold after a power-on reset, with the straps and pin
levels that State.reset names (model's choice, log 1). -/
def Obligations.ResetStateIsLawful : Prop :=
  State.reset.part.queueLaw ∧ State.reset.part.meterLaw ∧ State.reset.part.counterLaw
    ∧ State.reset.part.linesLaw ∧ State.reset.part.axisLaw ∧ State.reset.part.freshLaw
    ∧ State.reset.part.rateLaw ∧ State.reset.part.restLaw

/-- O5. POWER_ON_RESET: every table returns to its default, with the own number read from the straps, and
every runtime state to its start; the first sample starts the filters and LINES; an open stop loop asserts
ESTOP, whose change is raised as an event (R24, R33). That this event is raised with the reset, of which
R180 says that it sends no frame, is the model's reading (log 9); the stall position, the purpose, the state
suspended from and the probe goal at the start are the model's choice (log 28), and so is the 0 held for the meter
of a node that is not present (log 36). -/
def Obligations.PowerOnResetStartsEverything : Prop :=
  ∀ (straps : BitVec 2) (pins : BitVec 8) (s : State),
    ∃ t : State, exec (.powerOnReset straps pins) s = .next t ∧ t.pending = s.pending
      ∧ t.part.tab = Tables.default straps ∧ t.part.tab.own.val = 24 + straps.toNat
      ∧ t.part.sen.mode = .unconfigured ∧ t.part.sen.held = false ∧ t.part.sen.permit = 0 ∧ t.part.sen.groups = []
      ∧ t.part.sen.testOn = false ∧ t.part.sen.testOff = false ∧ t.part.sen.pins = pins
      ∧ (∀ q : Fin 24, t.part.sen.image[q] = if q = 11 then QuantityRun.linesStart pins.toNat else QuantityRun.start)
      ∧ (∀ k : Fin 8, t.part.sen.filters[k] = some { level := pins.getLsbD k.val, run := 0 })
      ∧ (∀ n : Fin 32, t.part.sen.meters[n] = if n.val = 1 then 16000 else 0)
      ∧ t.part.sen.refillTimer = some 10000
      ∧ t.part.act.axes = ⟨.start, .start, .start⟩ ∧ t.part.act.pointing = .start
      ∧ t.part.act.search = .start 50 ∧ t.part.act.seq = .start
      ∧ (t.part.sen.estop = pins.getLsbD 0)
      ∧ t.part.act.out = (if pins.getLsbD 0 then
          { Output.start 100 with
            seen := eventBit .estopChange
            tx := ⟨some ⟨eventFrame t.part.tab .estopChange [1], 162⟩, none, none⟩ }
        else Output.start 100)

/-- O6. RESET: the loaded tables, the filter states, the pins and LINES are kept; every other runtime state
returns to its start and the mode is UNCONFIGURED: the queues, the counters, the drop records and the
events-seen set are empty, every meter is full, and the groups of the active bank are formed again, each
PRESUMED with counters 0. Then the REPLY DONE is placed, the first frame the part sends, and the line set is
written into LINES as one arrival, which evaluates each group that uses LINES once. That the sample timer is
kept is the model's choice (log 32), that no STATUS is requested for the permit set that the reset empties is
its reading (log 27), and its choice are the stall position, the purpose, the state suspended from and the probe
goal at the start (log 28) and the 0 held for the meter of a node that is not present (log 36). -/
def Obligations.WarmResetKeepsTables : Prop :=
  ∀ (s : State) (h : Header), s.part.consumes h .reset [] →
    ∃ (p : Part) (t : State), exec (.reset h []) s = .next t ∧ t.pending = s.pending
      ∧ t = s.settled ((p.reply h.src .reset .done []).takeLines p.lineSet)
      -- the part as the reset leaves it
      ∧ p.tab = s.part.tab ∧ p.sen.mode = .unconfigured ∧ p.sen.held = false ∧ p.sen.permit = 0
      ∧ p.sen.testOn = false ∧ p.sen.testOff = false ∧ p.sen.pins = s.part.sen.pins
      ∧ p.sen.filters = s.part.sen.filters ∧ p.sen.sampleTimer = s.part.sen.sampleTimer
      ∧ p.sen.refillTimer = some 10000
      ∧ (∀ q : Fin 24, p.sen.image[q] =
          if q = 11 then QuantityRun.linesStart s.part.sen.lines else QuantityRun.start)
      ∧ (∀ n : Fin 32, p.sen.meters[n] = (s.part.tab.node n).capacity)
      ∧ p.sen.groups = s.part.tab.startGroups
      ∧ (∀ g ∈ p.sen.groups, g.state = .presumed ∧ g.trueRun = 0 ∧ g.falseRun = 0)
      ∧ p.act.axes = ⟨.start, .start, .start⟩ ∧ p.act.pointing = .start
      ∧ p.act.search = .start s.part.tab.search.s0 ∧ p.act.seq = .start ∧ p.act.lineWrites = []
      ∧ p.act.out.urgent = [] ∧ p.act.out.routine = [] ∧ p.act.out.driveQueue = [] ∧ p.act.out.sensorQueue = []
      ∧ p.act.out.tx = ⟨none, none, none⟩ ∧ p.act.out.counters = ⟨.zero, .zero, .zero⟩
      ∧ p.act.out.dropA = none ∧ p.act.out.dropB = none ∧ p.act.out.seen = 0
      ∧ p.act.out.statusTimer = some (s.part.tab.report.period * 10000)
      -- the one arrival of the line set
      ∧ (let q := (p.reply h.src .reset .done []).takeLines p.lineSet
        q.sen.lines = p.lineSet ∧ q.sen.groups = p.sen.groups.map fun g =>
          if g.uses p.tab.activeRules 11 then
            g.step (g.lastRule p.tab.activeRules) (g.holds p.tab.activeRules (p.sen.writeLines p.lineSet))
          else g)
      -- the state after all that follows
      ∧ t.part.tab = s.part.tab ∧ t.part.sen.mode = .unconfigured ∧ t.part.sen.permit = 0
      ∧ t.part.sen.testOn = false ∧ t.part.sen.testOff = false ∧ t.part.sen.pins = s.part.sen.pins
      ∧ t.part.sen.filters = s.part.sen.filters ∧ t.part.sen.sampleTimer = s.part.sen.sampleTimer
      ∧ t.part.sen.refillTimer = some 10000
      ∧ (∀ q : Fin 24, q ≠ 11 → t.part.sen.image[q] = QuantityRun.start)
      ∧ (t.part.sen.image[(11 : Fin 24)]).state = .fresh ∧ (t.part.sen.image[(11 : Fin 24)]).age = none
      ∧ (∀ n : Fin 32, t.part.sen.meters[n] = (s.part.tab.node n).capacity)
      ∧ t.part.act.axes = ⟨.start, .start, .start⟩ ∧ t.part.act.pointing = .start
      ∧ t.part.act.search = .start s.part.tab.search.s0 ∧ t.part.act.seq = .start
      ∧ t.part.act.out.driveQueue = [] ∧ t.part.act.out.sensorQueue = []
      ∧ t.part.act.out.tx = ⟨some ⟨replyFrame s.part.tab h.src .reset .done [],
          frameTime (replyFrame s.part.tab h.src .reset .done [])⟩, none, none⟩
      ∧ t.part.act.out.statusTimer = some (s.part.tab.report.period * 10000)

/-- O7. R180: while the reset input is held low the part takes nothing and sends nothing, until the
POWER_ON_RESET. What a command does in that time, and the cut of a transmission, are the model's (log 10). -/
def Obligations.HeldPartTakesNothing : Prop :=
  (∀ s : State, ∃ t : State, exec .resetInputAsserted s = .next t ∧ t.pending = s.pending ∧ t.part.sen.held = true
      ∧ t.part.tab = s.part.tab ∧ t.part.act.axes = s.part.act.axes
      ∧ t.part.act.out.tx = ⟨none, none, none⟩)
    ∧ ∀ (c : Instr) (s : State), s.part.sen.held = true → c ≠ .resetInputAsserted →
        (∀ straps pins, c ≠ .powerOnReset straps pins) → exec c s = .next s

/-- O8. START: its checks, in their order; with every check passed the mode is OPERATING; every axis has v_prev
0, sends a DEMAND of 0 and has its update timer and its drive age timer started, with its state, owner and goal
as they were (one change of axis records, O34, the DEMANDs in the order mast, pan, tilt, the model's choice, log
24); the permit set is formed and handed on (O34); then the STOW or LOWER actions of the ASSERTED groups are
performed (O21), and the REPLY is DONE; with a check failing the REPLY carries its result and nothing changes.
-/
def Obligations.StartOperates : Prop :=
  (∀ c : Ctx,
    let ready := fun n : Node => (c.tab.node n).present = true ∧ (c.tab.node n).role = .drive ∧ (c.tab.node n).port = .d
    startChecks c =
      if c.sen.mode = .operating then some .noChange
      else if ∀ r ∈ (c.tab.bank c.tab.active).toList, r.used = false then some .emptyRules
      else if ¬(c.tab.motion.mast.softMin < c.tab.motion.mast.softMax
          ∧ c.tab.motion.pan.softMin < c.tab.motion.pan.softMax
          ∧ c.tab.motion.tilt.softMin < c.tab.motion.tilt.softMax) then some .axisLimits
      else if ¬(ready c.tab.guard.mast.drive ∧ ready c.tab.guard.pan.drive ∧ ready c.tab.guard.tilt.drive) then
        some .noDrive
      else if c.sen.estop = true then some .estopActive
      else none)
  ∧ ∀ (s : State) (h : Header), s.part.consumes h .start [] →
    (∀ r, startChecks (s.entered h).ctx = some r →
      exec (.start h []) s = .next (s.answered h .start r (s.entered h)))
    ∧ (startChecks (s.entered h).ctx = none →
      ∃ (b : Acting) (q p : Part), exec (.start h []) s = .next (s.answered h .start .done p) ∧ p = q.startActions
        ∧ q = ({ s.entered h with sen := { (s.entered h).sen with mode := .operating }, act := b } : Part).formPermit
        ∧ b = (s.entered h).act.shift ⟨s.part.tab, { (s.entered h).sen with mode := .operating }⟩ (fun _ => some 0)
            (fun x r => { r with
              vPrev := 0, stallTimer := none
              updateTimer := some (s.part.tab.motion.get x).updateTime
              driveAge := .running (s.part.tab.guard.get x).ageTime })
        ∧ (∀ x, b.axes.get x = { s.part.act.axes.get x with
            vPrev := 0, stallTimer := none
            updateTimer := some (s.part.tab.motion.get x).updateTime
            driveAge := .running (s.part.tab.guard.get x).ageTime })
        ∧ b.search = s.part.act.search ∧ b.seq = s.part.act.seq
        ∧ b.pointing = s.part.act.pointing.watch s.part.act.axes
        ∧ (s.part.tab.ports.d.state ≠ .closed → ∀ x, Output.sends (demandFrame s.part.tab x 0) x b.out)
        ∧ q.sen.permit = q.ctx.permitSet ∧ q.sen = p.sen
        ∧ p.sen.mode = .operating ∧ p.sen.permit = p.ctx.permitSet ∧ p.sen.groups = s.part.sen.groups
        ∧ p.tab = s.part.tab ∧ p.sen.image = s.part.sen.image ∧ p.sen.filters = s.part.sen.filters
        ∧ ∀ x, (p.act.axes.get x).vPrev = 0
            ∧ (p.act.axes.get x).updateTimer = some (s.part.tab.motion.get x).updateTime
            ∧ (p.act.axes.get x).driveAge = .running (s.part.tab.guard.get x).ageTime)

/-! ### The sensor image -/

/-- O9. SAMPLE: every quantity named by a pair is taken or its fault counted, pair by pair in frame order, each
with the hand-offs of O10; every other quantity, and all else that the part holds and senses but LINES, the
groups and the permit set, is unchanged. How an angle above 32767 is read is the model's (log 40), and so is the
place of a mirrored copy after the taking of its frame (log 19). -/
def Obligations.SampleTakesItsPairs : Prop :=
  (∀ (s : State) (h : Header) (ws : List Word), s.part.consumes h .sample ws →
    ∃ t : State, exec (.sample h ws) s = .next t ∧ t.pending = s.pending ∧ t.part.tab = s.part.tab
      ∧ (∀ q : Fin 24, q ≠ 11 →
          t.part.sen.image[q] = QuantityRun.afterPairs (s.part.tab.quantity q) h.src q ws s.part.sen.image[q])
      ∧ t.part.sen.meters = (s.part.sen.spend h.src).meters ∧ t.part.sen.mode = s.part.sen.mode
      ∧ t.part.sen.pins = s.part.sen.pins ∧ t.part.sen.filters = s.part.sen.filters
      ∧ t.part.sen.testOn = s.part.sen.testOn ∧ t.part.sen.testOff = s.part.sen.testOff
      ∧ t.part.sen.sampleTimer = s.part.sen.sampleTimer ∧ t.part.sen.refillTimer = s.part.sen.refillTimer
      -- the whole part: the pairs, and the copy that a mirrored frame leaves (O47)
      ∧ (let q := (s.entered h).takePairs h.src ws
        let copy := s.part.tab.rewrite (frameOf h .sample ws)
        let mirrored := (s.part.tab.node h.src).mirror = true ∧ h.port ≠ .c ∧ s.part.tab.ports.c.state = .opened
        (¬mirrored → t = s.settled q)
        ∧ (mirrored → t = s.settled { q with act := { q.act with
            out := q.act.out.placeC q.tab (statusWords q.ctx q.act) (q.tab.urgentByMask copy)
              ⟨.mirrored, .frame copy⟩ } })))
  ∧ (∀ (sender : Node) (p : Part), p.takePairs sender [] = p
    ∧ ∀ (q : Fin 24) (id v : Word) (rest : List Word), id.toNat = q.val →
      p.takePairs sender (id :: v :: rest)
        = (p.takePair sender q ((p.tab.quantity q).reading v)).takePairs sender rest)
  ∧ ∀ (e : QuantityEntry) (w : Word), e.reading w =
    if 32768 < w.toNat ∧ (w.toNat : Int) ≤ e.hi then (w.toNat : Int) else w.toInt

/-- O10. R7, R8: a pair that passes both checks becomes the record's value, makes it FRESH in whichever state it
was, reloads its age, and is an arrival, a value equal to the held one too. A pair that fails a check raises the
fault count and changes nothing else. A taken value is handed on as one arrival: the line set is formed, the
groups that use the quantity are evaluated once, with all that follows from it (O19), and RX_LEVEL is handed to the
search (O40); then the line set's arrivals follow. That the arrivals of the line set follow each pair is the
model's reading (log 13), and the order of the hand-offs is its choice: the line set before the rule banks (log 45),
and they before the search (log 46). -/
def Obligations.PairPassesOrFaults : Prop :=
  ∀ (p : Part) (sender : Node) (q : Fin 24) (v : Int),
    let e := p.tab.quantity q
    let r := p.sen.image[q]
    let taken : QuantityRun := { value := v, state := .fresh, age := some (e.maxAge * 10000), faults := r.faults }
    let faulted : QuantityRun := { r with faults := if r.faults < 255 then r.faults + 1 else r.faults }
    ((e.source.val = 31 ∨ e.source = sender) ∧ e.lo ≤ v ∧ v ≤ e.hi →
      p.takePair sender q v = Part.valueTaken q v { p with sen := p.sen.setQuantity q taken })
    ∧ (¬((e.source.val = 31 ∨ e.source = sender) ∧ e.lo ≤ v ∧ v ≤ e.hi) →
      p.takePair sender q v = { p with sen := p.sen.setQuantity q faulted })
    ∧ (let told : Part := p.formLines.evaluate fun g => g.uses p.tab.activeRules q
      (q ≠ 8 → Part.valueTaken q v p = told.settle)
      ∧ (q = 8 → Part.valueTaken q v p = ({ told with act := told.act.searchLevel told.ctx v } : Part).settle))

/-- O11. AGE_EXPIRY: a record whose age runs out becomes STALE with its value and fault count kept. It is handed
on: the line set is formed; the groups that use the quantity are evaluated once; a position is lost to its axis,
which enters FAULT with POSITION_LOST unless it is STOPPED or in FAULT; a pan or tilt that is no longer fresh
stops a mast that moves down at or below the clear height; RX_LEVEL becomes a cause of suspension. No other
quantity changes. That the expiry acts whatever time the age timer still shows, and that a stopped one does not
expire, are the model's choice (log 3), and so is the order of the hand-offs, which no rule gives: the line set
before the rule banks (log 45), they before axis control and the search (log 46), the axis before the mast-down
guard (log 41), and within a change of axes the search, pointing and the sequencer in this order (log 14); that
an immediate zero is sent in OPERATING alone is its reading (log 11). -/
def Obligations.AgeExpiryMakesStale : Prop :=
  (∀ (s : State) (q : Fin 24), s.part.sen.held = false → q ≠ 11 →
    ((s.part.sen.image[q]).age.isSome = true →
      let gone : QuantityRun := { (s.part.sen.image[q]) with state := .stale, age := none }
      let stale : Part := { s.part with sen := s.part.sen.setQuantity q gone }
      let told : Part := stale.formLines.evaluate fun g => g.uses s.part.tab.activeRules q
      ∃ (p : Part) (t : State), exec (.ageExpiry q) s = .next t ∧ t = s.settled p ∧ t.pending = s.pending
        ∧ p.tab = s.part.tab ∧ p.sen = told.sen
        ∧ (q = 0 → p.act = told.act.losePosition told.ctx .mast)
        ∧ (q = 1 → p.act = (told.act.losePosition told.ctx .pan).guardMast told.ctx)
        ∧ (q = 2 → p.act = (told.act.losePosition told.ctx .tilt).guardMast told.ctx)
        ∧ (q = 8 → p.act = told.act.enterCause told.ctx fun k => { k with levelStale := true })
        ∧ (q ≠ 0 → q ≠ 1 → q ≠ 2 → q ≠ 8 → p.act = told.act)
        ∧ t.part.tab = s.part.tab
        ∧ t.part.sen.image[q] = gone
        ∧ (∀ k : Fin 24, k ≠ q → k ≠ 11 → t.part.sen.image[k] = s.part.sen.image[k])
        ∧ t.part.sen.meters = s.part.sen.meters ∧ t.part.sen.filters = s.part.sen.filters
        ∧ t.part.sen.mode = s.part.sen.mode)
    ∧ ((s.part.sen.image[q]).age = none → exec (.ageExpiry q) s = .next (s.settled s.part)))
  ∧ (∀ (p : Part) (q : Fin 24),
    let told : Part := p.formLines.evaluate fun g => g.uses p.tab.activeRules q
    let acts := fun a : Acting => ({ told with act := a } : Part)
    (q = 0 → p.wentStale q = acts (told.act.losePosition told.ctx .mast))
    ∧ (q = 1 → p.wentStale q = acts ((told.act.losePosition told.ctx .pan).guardMast told.ctx))
    ∧ (q = 2 → p.wentStale q = acts ((told.act.losePosition told.ctx .tilt).guardMast told.ctx))
    ∧ (q = 8 → p.wentStale q = acts (told.act.enterCause told.ctx fun k => { k with levelStale := true }))
    ∧ (q ≠ 0 → q ≠ 1 → q ≠ 2 → q ≠ 8 → p.wentStale q = told))
  ∧ (∀ (c : Ctx) (x : Axis) (a : Acting),
    let st := (a.axes.get x).state
    (st = .stopped ∨ st = .fault → a.losePosition c x = a)
    ∧ (st ≠ .stopped → st ≠ .fault → a.losePosition c x = a.enterFault c x .positionLost))
  ∧ ∀ (c : Ctx) (a : Acting),
    let blocked := a.axes.mast.vPrev < 0 ∧ c.pos .mast ≤ c.tab.pointing.clearHeight
      ∧ ¬(c.inStow .pan = true ∧ c.inStow .tilt = true)
    (¬blocked → a.guardMast c = a)
    ∧ (blocked → ∃ b : Acting, a.guardMast c = b.handAxes c a.axes ∧ b.axes = a.axes.set .mast a.axes.mast.held
        ∧ b = a.shift c (immediateZeros c fun x => decide (x = .mast)) (fun x r => if x = .mast then r.held else r)
        ∧ b.search = a.search ∧ b.seq = a.seq
        ∧ (c.sen.mode = .operating → c.tab.ports.d.state ≠ .closed → Output.sends (demandFrame c.tab .mast 0) .mast b.out))

/-! ### Lines -/

/-- O12. INPUT_SAMPLE and FILTERED_LEVEL_CHANGE: the sampling instant samples every input line through its
filter with the raw level of its pin, and leaves the output lines, the tables and the image but LINES as
they were. The line set that the filtered levels make is formed as one change; then a change of ESTOP, its
assertion or its release, is handed on: the assertion cuts every axis off, the permit set is formed again, and
ESTOP_CHANGE is raised with 1 for asserted and 0 for released. That the two commands are the same instant is the
model's reading (log 8), and that the line set is formed before ESTOP is handed on, and the axes, the permit set and
the event follow in this order, is its choice (log 39). -/
def Obligations.SamplingInstantFiltersInputs : Prop :=
  ∀ (s : State) (pins : BitVec 8), s.part.sen.held = false →
    ∃ t : State, exec (.inputSample pins) s = .next t ∧ exec (.filteredLevelChange pins) s = .next t
      ∧ t.pending = s.pending ∧ t.part.tab = s.part.tab ∧ t.part.sen.pins = pins
      ∧ t.part.sen.sampleTimer = some 1000
      ∧ (∀ k : Fin 8, t.part.sen.filters[k] =
          let r := s.part.tab.line k
          if isInputFunction r.function then
            (s.part.sen.filters[k]).map fun f => f.sample (filterTime r.filter) (xor (pins.getLsbD k.val) r.invert)
          else s.part.sen.filters[k])
      ∧ (∀ q : Fin 24, q ≠ 11 → t.part.sen.image[q] = s.part.sen.image[q])
      ∧ t.part.sen.meters = s.part.sen.meters ∧ t.part.sen.mode = s.part.sen.mode
      ∧ (let sampled : Part := { s.part with sen := { s.part.sen with
            pins := pins, sampleTimer := some 1000, filters := t.part.sen.filters } }
        (sampled.sen.estop = s.part.sen.estop → t = s.settled sampled.formLines)
        ∧ (sampled.sen.estop ≠ s.part.sen.estop → t = s.settled sampled.formLines.estopChanged)
        ∧ let p := sampled.formLines
          let cut : Part := if p.sen.estop = true then { p with act := p.act.cutOffAll p.ctx } else p
          let formed := cut.formPermit
          let word : Word := if p.sen.estop = true then 1 else 0
          p.estopChanged = { formed with act := formed.act.raise formed.ctx .estopChange [word] })

/-- O13. R22: with filter time ms, a settled line of another level keeps its level for the first ms - 1 samples
that disagree, counting them, and takes the new level at the ms-th; an agreeing sample starts the count again;
with filter time 0 every sample is taken. The four filter codes are 0, 4, 16 and 64 ms (R19). -/
def Obligations.FilterChangesAtItsTime : Prop :=
  ∀ (ms : Nat) (raw : Bool) (f : LineFilter),
    (raw = f.level → f.sample ms raw = { f with run := 0 })
    ∧ (raw ≠ f.level → f.run = 0 → 0 < ms →
        (∀ n, n < ms → (LineFilter.sample ms raw)^[n] f = { level := f.level, run := n })
          ∧ (LineFilter.sample ms raw)^[ms] f = { level := raw, run := 0 })
    ∧ (raw ≠ f.level → ms = 0 → f.sample ms raw = { level := raw, run := 0 })
    ∧ filterTime 0 = 0 ∧ filterTime 1 = 4 ∧ filterTime 2 = 16 ∧ filterTime 3 = 64

/-- O14. R24, R79: the sampling instant at which L0's filtered level goes to 1 asserts ESTOP: every axis not in
FAULT is STOPPED with no owner, goal or jog request and settle run 0, one in FAULT stays in it, and v_prev is 0;
no search and no sequence runs; the permit set is empty; and, in OPERATING at a port D that is not CLOSED, every
axis has sent an immediate zero, which waits or is in transmission, and every DEMAND still waiting carries 0. In
UNCONFIGURED the assertion sends no zero: that R178, which has no DEMAND sent there, stands over R79 is the
model's reading (log 11). -/
def Obligations.EstopCutsEveryAxisOff : Prop :=
  ∀ (s : State) (pins : BitVec 8), s.part.sen.held = false → s.part.sen.estop = false →
    s.part.sen.estopAfter pins = true →
    ∃ t : State, exec (.inputSample pins) s = .next t ∧ t.pending = s.pending ∧ t.part.tab = s.part.tab
      ∧ t.part.sen.estop = true ∧ t.part.sen.permit = 0
      ∧ (∀ x, AxisRun.CutOff (s.part.act.axes.get x) (t.part.act.axes.get x))
      ∧ t.part.act.search.state.running = false ∧ t.part.act.seq.state = .idle
      ∧ (s.part.sen.mode = .operating → s.part.tab.ports.d.state ≠ .closed →
          (∀ x f, DEntry.demand x f ∈ t.part.act.out.driveQueue → f.payload = [0])
          ∧ ∀ x, Output.sends (demandFrame s.part.tab x 0) x t.part.act.out)

/-- O15. R23, R28, R48: the line set is formed at each event that changes line levels, at each axis of a change
of axis records too, and when it differs from the one formed last it waits to be written into LINES. After an
event those that wait are written, oldest first, each as one arrival, which evaluates the groups that use LINES
once (O19). With none waiting, and LINES as the levels form it, nothing follows. The arrivals change no table,
no filter, no meter, no timer of the sampling or the refill, no pin, no flag and no quantity but LINES. That one
command follows at most 64 arrivals is the model's choice (log 12), and so is the order of the axes (log 45). -/
def Obligations.LineSetFollowsLevels : Prop :=
  (∀ p : Part,
    let last := p.act.lineWrites.getLast?.getD p.sen.lines
    (p.lineSet = last → p.formLines = p)
    ∧ (p.lineSet ≠ last →
        p.formLines = { p with act := { p.act with lineWrites := p.act.lineWrites ++ [p.lineSet] } })
    ∧ (p.act.lineWrites = [] → p.lineSet = p.sen.lines → p.settle = p)
    ∧ p.settle = Part.followLines 64 p.formLines
    ∧ (∀ n, p.act.lineWrites = [] → Part.followLines n p = p)
    ∧ (∀ n v rest, p.act.lineWrites = v :: rest →
        let q : Part := { p with act := { p.act with lineWrites := rest } }
        Part.followLines (n + 1) p = Part.followLines n (q.takeLines v) ∧ (q.takeLines v).sen.lines = v)
    ∧ (∀ v : Int,
        let line : QuantityRun := { p.sen.image[(11 : Fin 24)] with value := v }
        let written : Part := { p with sen := { p.sen with image := p.sen.image.set 11 line } }
        p.takeLines v = written.evaluate fun g => g.uses p.tab.activeRules 11)
    ∧ p.settle.tab = p.tab ∧ p.settle.sen.mode = p.sen.mode ∧ p.settle.sen.held = p.sen.held
    ∧ p.settle.sen.pins = p.sen.pins ∧ p.settle.sen.filters = p.sen.filters
    ∧ p.settle.sen.testOn = p.sen.testOn ∧ p.settle.sen.testOff = p.sen.testOff
    ∧ p.settle.sen.meters = p.sen.meters ∧ p.settle.sen.sampleTimer = p.sen.sampleTimer
    ∧ p.settle.sen.refillTimer = p.sen.refillTimer
    ∧ ∀ q : Fin 24, q ≠ 11 → p.settle.sen.image[q] = p.sen.image[q])
  ∧ ∀ (c : Ctx) (rate : Axis → Option Int) (f : Axis → AxisRun → AxisRun) (a : Acting),
    let mast : Acting := { a with axes := { a.axes with mast := f .mast a.axes.mast } }.formLines c
    let pan : Acting := { mast with axes := { mast.axes with pan := f .pan a.axes.pan } }.formLines c
    let tilt : Acting := { pan with axes := { pan.axes with tilt := f .tilt a.axes.tilt } }.formLines c
    (a.shift c rate f).axes = tilt.axes ∧ (a.shift c rate f).lineWrites = tilt.lineWrites

/-- O16. LAMP_TEST sets both flags to the values carried; LINES_SET sets the value field of every OUTPUT line
in the mask, leaves every other line record as it was, and answers PARTIAL when the mask names a line of
another function. Both leave all else as it was before the line set follows. -/
def Obligations.LampTestAndLinesSetWrite : Prop :=
  (∀ (s : State) (h : Header) (a b : Word) (on off : Bool),
      s.part.consumes h .lampTest [a, b] → yesNo a = some on → yesNo b = some off →
      let e := s.entered h
      exec (.lampTest h [a, b]) s
        = .next (s.answered h .lampTest .done { e with sen := { e.sen with testOn := on, testOff := off } }))
  ∧ (∀ (s : State) (h : Header) (m v : Word) (mask values : BitVec 8),
      s.part.consumes h .linesSet [m, v] → setIn 8 m = some mask → setIn 8 v = some values →
      let e := s.entered h
      ∃ lines : Vector LineRecord 8,
        exec (.linesSet h [m, v]) s
          = .next (s.answered h .linesSet
              (if ∀ k : Fin 8, mask.getLsbD k.val = true → (s.part.tab.line k).function = .output then .done
               else .partialDone)
              { e with tab := { e.tab with lines := lines } })
        ∧ ∀ k : Fin 8, lines[k] =
            let r := s.part.tab.lines[k]
            if mask.getLsbD k.val = true ∧ r.function = .output then
              { r with value := if values.getLsbD k.val then 1 else 0 }
            else r)

/-- O17. R25 to R29: the level of an output line. An OUTPUT line has its value; an indicator has 1 with
test-on set, 0 with test-off alone, and otherwise its condition: MAST_LAMP a mast height that is not fresh
or is above stow position plus tolerance, BEACON an axis MOVING, JOGGING or STOPPING, GROUP_LAMP its group
in force. The pin is the level, inverted when invert is yes. -/
def Obligations.OutputLevelsAsStated : Prop :=
  ∀ (p : Part) (k : Fin 8),
    let r := p.tab.line k
    let lamp := fun condition : Prop =>
      (p.lineLevel k = true ↔ p.sen.testOn = true ∨ (p.sen.testOff = false ∧ condition))
    (r.function = .output → (p.lineLevel k = true ↔ r.value = 1))
    ∧ (r.function = .mastLamp → lamp ((p.sen.image[(0 : Fin 24)]).state ≠ .fresh
        ∨ p.tab.guard.mast.stowPos + p.tab.guard.mast.stowTol < (p.sen.image[(0 : Fin 24)]).value))
    ∧ (r.function = .beacon → lamp (∃ x, (p.act.axes.get x).state = .moving ∨ (p.act.axes.get x).state = .jogging
        ∨ (p.act.axes.get x).state = .stopping))
    ∧ (r.function = .groupLamp → lamp (∃ g, p.sen.groupOf r.value = some g ∧ g.state ≠ .clear))
    ∧ p.pinDriven k = xor (p.lineLevel k) r.invert

/-! ### Interlock rule banks -/

/-- O18. R40, R41: the predicate of one rule. With an operand that is not fresh every condition holds; with a
fresh one each is the comparison or mask test of its name; STALE holds exactly when the operand is not
fresh, and ALWAYS holds. -/
def Obligations.RulePredicatesAsStated : Prop :=
  ∀ (r : Rule) (s : Sensed),
    let fresh := (s.image[r.operand]).state = .fresh
    let v := (s.image[r.operand]).value
    let mask := BitVec.ofInt 16 v &&& BitVec.ofInt 16 r.threshold
    (¬fresh → r.holds s = true)
    ∧ (r.condition = .always → r.holds s = true)
    ∧ (fresh →
        (r.condition = .stale → r.holds s = false)
        ∧ (r.condition = .gt → (r.holds s = true ↔ r.threshold < v))
        ∧ (r.condition = .ge → (r.holds s = true ↔ r.threshold ≤ v))
        ∧ (r.condition = .lt → (r.holds s = true ↔ v < r.threshold))
        ∧ (r.condition = .le → (r.holds s = true ↔ v ≤ r.threshold))
        ∧ (r.condition = .eq → (r.holds s = true ↔ v = r.threshold))
        ∧ (r.condition = .ne → (r.holds s = true ↔ v ≠ r.threshold))
        ∧ (r.condition = .anySet → (r.holds s = true ↔ mask ≠ 0))
        ∧ (r.condition = .allClear → (r.holds s = true ↔ mask = 0)))

/-- O19. R42, R44, R47, R48: a group's predicate is the conjunction of its members'; one evaluation takes a group
through the table of R44; an evaluating event evaluates each group it concerns once, and hands on, in this
order, the lamps, the permit set, the actions and the GROUP_CHANGE events. A changed group whose last rule has
report yes raises one, with its first rule, the states before and after, and the action performed; another
raises none. That the events come by ascending first rule number is the model's choice (log 42). -/
def Obligations.GroupStepAsTable : Prop :=
  (∀ (g : Group) (rules : List Rule) (s : Sensed),
      g.holds rules s = true ↔ ∀ r ∈ g.members rules, r.holds s = true)
  ∧ (∀ (g : Group) (last : Rule),
      (g.state = .clear →
        g.step last false = { g with trueRun := 0 }
        ∧ (g.trueRun + 1 = last.assertP → g.step last true = { g with state := .asserted, trueRun := 0, falseRun := 0 })
        ∧ (g.trueRun + 1 ≠ last.assertP → g.step last true = { g with trueRun := g.trueRun + 1 }))
      ∧ (g.state = .asserted → g.step last true = { g with falseRun := 0 })
      ∧ (g.state = .presumed → g.step last true = { g with state := .asserted, trueRun := 0, falseRun := 0 })
      ∧ (g.state ≠ .clear →
        (g.falseRun + 1 = last.releaseP → g.step last false = { g with state := .clear, trueRun := 0, falseRun := 0 })
        ∧ (g.falseRun + 1 ≠ last.releaseP → g.step last false = { g with falseRun := g.falseRun + 1 })))
  ∧ (∀ (p : Part) (concerned : Group → Bool),
      (p.evaluate concerned).sen.groups = p.sen.groups.map fun g =>
        if concerned g then g.step (g.lastRule p.tab.activeRules) (g.holds p.tab.activeRules p.sen) else g)
  ∧ (∀ (p : Part) (concerned : Group → Bool),
      let rules := p.tab.activeRules
      let new := p.sen.groups.map fun g => if concerned g then g.step (g.lastRule rules) (g.holds rules p.sen) else g
      let changes := p.sen.groups.zip new
      let q := ({ p with sen := { p.sen with groups := new } } : Part).formLines.formPermit
      let r := q.act.perform q.ctx rules changes
      p.evaluate concerned
        = { q with act := changes.foldl (fun a ch => a.groupEvent q.ctx rules r.2 ch.1 ch.2) r.1 })
  ∧ ∀ (c : Ctx) (rules : List Rule) (done : Performed) (old new : Group) (a : Acting),
      let last := new.lastRule rules
      let performed := old.state ≠ .asserted ∧ new.state = .asserted
        ∧ ((last.action = .stopAll ∧ done.stopAll = true) ∨ (last.action = .stow ∧ done.stow = true)
          ∨ (last.action = .lower ∧ done.lower = true))
      (old.state = new.state ∨ last.report = false → a.groupEvent c rules done old new = a)
      ∧ (old.state ≠ new.state → last.report = true → a.groupEvent c rules done old new =
          a.raise c .groupChange [BitVec.ofNat 16 new.first, BitVec.ofInt 16 (groupStateCode old.state),
            BitVec.ofInt 16 (groupStateCode new.state),
            BitVec.ofInt 16 (actionCode (if performed then last.action else .none))])

/-- O20. R54: a direction belongs to the permit set exactly when the mode is OPERATING, ESTOP is released, and
no ASSERTED or PRESUMED group has it in the inhibits of its last rule; and STATUS carries the set in its
second word. -/
def Obligations.PermitSetAsStated : Prop :=
  (∀ (c : Ctx) (d : Direction),
      hasDirection c.permitSet d = true ↔
        c.sen.mode = .operating ∧ c.sen.estop = false
          ∧ ∀ g ∈ c.sen.groups, g.state ≠ .clear → hasDirection (g.lastRule c.tab.activeRules).inhibits d = false)
  ∧ ∀ (c : Ctx) (a : Acting), (statusWords c a)[1]? = some (c.sen.permit.setWidth 16)

/-- O21. R49 to R53: a performed STOP_ALL cuts every axis off as ESTOP does, one in FAULT staying in it and
every other STOPPED, and aborts the search and the sequence (O39, O42); in OPERATING with port D not CLOSED
every axis sends an immediate zero, and every waiting DEMAND then carries 0; the permit set is no part of it. Of
the actions that one event triggers, by groups that enter ASSERTED, none is performed in UNCONFIGURED; in
OPERATING a STOP_ALL is performed first, then a STOW, or else a LOWER. A STOW does nothing while a STOW runs; a
LOWER needs a fresh mast height above the safe height and no running sequence. A STOW that its claim checks
refuse starts nothing and raises SEQUENCE_END with REFUSED. START performs the STOW or LOWER of the groups that
are ASSERTED. The code of the last word of the REFUSED event is the model's reading (log 43), and that a
STOP_ALL acts on the axes, the search and the sequencer in this order (log 16); the order of its zeros, mast,
pan, tilt, is its choice (log 24), and that it would send none in UNCONFIGURED is its reading (log 11). -/
def Obligations.StopAllCutsEveryAxisOff : Prop :=
  (∀ (c : Ctx) (a : Acting),
    let b := a.cutOffAll c
    b = ((a.shift c (immediateZeros c fun _ => true) fun _ r => r.cutOff).abortSearch c).abortSequence c
      ∧ (∀ r : AxisRun,
        (r.state = .fault → r.cutOff = { r with vPrev := 0, stallTimer := none })
        ∧ (r.state ≠ .fault → r.cutOff = { r with
            state := .stopped, owner := .none, goal := none, jog := none, jogTimer := none, settle := 0, vPrev := 0
            stallTimer := none, faultCause := .none }))
      ∧ (∀ x, AxisRun.CutOff (a.axes.get x) (b.axes.get x))
      ∧ b.search.state.running = false ∧ b.seq.state = .idle
      ∧ (c.sen.mode = .operating → c.tab.ports.d.state ≠ .closed →
          (∀ x f, DEntry.demand x f ∈ b.out.driveQueue → f.payload = [0])
          ∧ ∀ x, Output.sends (demandFrame c.tab x 0) x b.out))
  ∧ (∀ (c : Ctx) (a : Acting),
    (a.seq.state = .idle → a.abortSequence c = a)
    ∧ (a.seq.state ≠ .idle → a.abortSequence c = a.endSequence c .aborted .none .release))
  ∧ (∀ (c : Ctx) (rules : List Rule) (changes : List (Group × Group)) (a : Acting),
    let triggered := fun act : Action => ∃ ch ∈ changes,
      ch.1.state ≠ .asserted ∧ ch.2.state = .asserted ∧ (ch.2.lastRule rules).action = act
    let r := a.perform c rules changes
    (c.sen.mode = .unconfigured → r = (a, { stopAll := false, stow := false, lower := false }))
    ∧ (c.sen.mode = .operating → ∃ (b : Acting) (stow lower : Bool),
        (triggered .stopAll → b = a.cutOffAll c ∧ r.2.stopAll = true)
        ∧ (¬triggered .stopAll → b = a ∧ r.2.stopAll = false)
        ∧ (stow = true ↔ triggered .stow) ∧ (lower = true ↔ triggered .lower)
        ∧ r.1 = (b.performSequence c stow lower).1
        ∧ r.2.stow = (b.performSequence c stow lower).2.stow
        ∧ r.2.lower = (b.performSequence c stow lower).2.lower))
  ∧ (∀ (c : Ctx) (stow lower : Bool) (a : Acting),
    let r := a.performSequence c stow lower
    let stowing := a.seq.state = .stowTilt ∨ a.seq.state = .stowPan ∨ a.seq.state = .stowMast
    let allowed := (c.sen.image[(0 : Fin 24)]).state = .fresh
      ∧ c.tab.pointing.safeHeight < (c.sen.image[(0 : Fin 24)]).value ∧ a.seq.state = .idle
    let nothing : Performed := { stopAll := false, stow := false, lower := false }
    (stow = true → stowing → r = (a, nothing))
    ∧ (stow = true → ¬stowing → r = ((a.stowAction c).1, { nothing with stow := (a.stowAction c).2 }))
    ∧ (stow = false → lower = true → allowed → r = ((a.lowerAction c).1, { nothing with lower := (a.lowerAction c).2 }))
    ∧ (stow = false → ¬(lower = true ∧ allowed) → r = (a, nothing)))
  ∧ (∀ (c : Ctx) (a : Acting),
    (∀ refusal, claimChecks c .safety (fun _ => true) a = some refusal →
      a.stowAction c = (a.raise c .sequenceEnd [1, 4, BitVec.ofInt 16 (resultCode refusal), 0], false))
    ∧ (claimChecks c .safety (fun _ => true) a = none → a.stowAction c = (a.startStow c, true)))
  ∧ ∀ p : Part,
    let asserted := fun act : Action => ∃ g ∈ p.sen.groups,
      g.state = .asserted ∧ (g.lastRule p.tab.activeRules).action = act
    ∃ stow lower : Bool, (stow = true ↔ asserted .stow) ∧ (lower = true ↔ asserted .lower)
      ∧ p.startActions = { p with act := (p.act.performSequence p.ctx stow lower).1 }

/-- O22. R39, R56, R57. The groups of the active bank: each is a maximal run of used rules of which every one
but the last joins the next, PRESUMED with counters 0; every used rule lies in one; and they stand by ascending
rule number. BANK_SWAP: a swap to the active bank and one to an empty bank are refused with nothing changed; a
taken one makes the named bank active, its groups start PRESUMED, the lamps that follow them reach LINES, the
groups that use LINES are evaluated once on the line set as it then stands, and the permit set, the actions and
the events are those of that arrival (O15, O19, O21, O34). That the write of the lamps and the evaluation are
one arrival is the model's reading (log 26); that line sets which still wait from a loop of more than 64
arrivals are discarded is its choice (log 12). -/
def Obligations.BankSwapAsStated : Prop :=
  (∀ t : Tables,
    let rule := fun k : Nat => t.activeRules.getD k Rule.empty
    (∀ g ∈ t.startGroups, g.state = .presumed ∧ g.trueRun = 0 ∧ g.falseRun = 0
      ∧ g.first ≤ g.last ∧ g.last ≤ 47
      ∧ (∀ k, g.first ≤ k → k ≤ g.last → (rule k).used = true)
      ∧ (∀ k, g.first ≤ k → k < g.last → (rule k).join = .andNext)
      ∧ ((rule g.last).join = .alone ∨ g.last = 47 ∨ (rule (g.last + 1)).used = false)
      ∧ (g.first = 0 ∨ (rule (g.first - 1)).used = false ∨ (rule (g.first - 1)).join = .alone))
    ∧ (∀ k, k ≤ 47 → (rule k).used = true → ∃ g ∈ t.startGroups, g.first ≤ k ∧ k ≤ g.last)
    ∧ t.startGroups.Pairwise fun g g' => g.last < g'.first)
  ∧ ∀ (s : State) (h : Header) (w : Word) (which : Bank), s.part.consumes h .bankSwap [w] → bankOf w.toInt = some which →
    let e := s.entered h
    (s.part.tab.active = which →
      exec (.bankSwap h [w]) s = .next (s.answered h .bankSwap .noChange e))
    ∧ (s.part.tab.active ≠ which → (∀ r ∈ (s.part.tab.bank which).toList, r.used = false) →
      exec (.bankSwap h [w]) s = .next (s.answered h .bankSwap .emptyRules e))
    ∧ (s.part.tab.active ≠ which → (∃ r ∈ (s.part.tab.bank which).toList, r.used = true) →
      let tab : Tables := { s.part.tab with active := which }
      let lit : Part := { e with tab := tab, sen := { e.sen with groups := tab.startGroups } }
      let arrived : Sensed := lit.sen.writeLines lit.lineSet
      ∃ p : Part, exec (.bankSwap h [w]) s = .next (s.answered h .bankSwap .done p)
        ∧ p = Part.takeLines lit.lineSet { lit with act := { lit.act with lineWrites := [] } }
        ∧ p.tab = tab ∧ p.sen.image = arrived.image ∧ p.sen.lines = lit.lineSet
        ∧ p.sen.groups = tab.startGroups.map (fun g =>
            if g.uses tab.activeRules 11 then g.step (g.lastRule tab.activeRules) (g.holds tab.activeRules arrived)
            else g)
        ∧ p.sen.permit = p.ctx.permitSet ∧ p.sen.filters = s.part.sen.filters
        ∧ (∀ q : Fin 24, q ≠ 11 → p.sen.image[q] = s.part.sen.image[q]))

/-! ### Axis control -/

/-- O23. R66, R67: the checks of a claim on one axis, in order, and over the axes named in the order mast,
pan, tilt; the first that fails is the result. -/
def Obligations.ClaimChecksInOrder : Prop :=
  (∀ (c : Ctx) (o : Owner) (x : Axis) (r : AxisRun),
    let rank : Owner → Nat := fun | .none => 0 | .aim => 1 | .search => 1 | .jog => 2 | .safety => 3
    let passes := rank r.owner ≤ rank o
      ∧ (o = .search → r.owner = .none ∨ r.owner = .search ∨ (r.owner = .aim ∧ r.state = .atGoal))
    claimCheck c o x r =
      if c.sen.mode = .unconfigured then some .notStarted
      else if c.sen.estop = true then some .estopActive
      else if r.state = .fault then some .axisFault
      else if ¬passes then some (if r.owner = .safety then .stowActive else .busyOwner)
      else if r.drive ≠ .ready then some .driveNotReady
      else if (c.sen.image[positionOf x]).state ≠ .fresh then some .noPosition
      else none)
  ∧ ∀ (c : Ctx) (o : Owner) (named : Axis → Bool) (a : Acting),
    let check := fun x => if named x then claimCheck c o x (a.axes.get x) else none
    claimChecks c o named a = ((check .mast).or (check .pan)).or (check .tilt)

/-- O24. R68, R69: a granted goal claim and a release, axis by axis. An axis at the goal stays AT_GOAL under its
new owner; any other is MOVING toward the goal, clamped into the soft limits, with v_prev kept, and with the
stall timer and its recorded position kept where it was MOVING or JOGGING (R88), all else of the drive and the
timers as it was. A release keeps an AT_GOAL axis at its goal and brings a MOVING or HELD one to STOPPING. An
axis not named, and one not owned, is unchanged. Each is one change of axis records, without a DEMAND (O34). -/
def Obligations.ClaimAndReleaseActOnAxes : Prop :=
  (∀ (c : Ctx) (o : Owner) (goal : Axis → Option Int) (a : Acting) (x : Axis),
    let old := a.axes.get x
    let new := (a.claim c o goal).axes.get x
    let m := c.tab.motion.get x
    (goal x = none → new = old)
    ∧ ∀ g, goal x = some g →
        let g' := max m.softMin (min m.softMax g)
        (old.state = .atGoal ∧ old.goal = some g' → new = { old with owner := o })
        ∧ (¬(old.state = .atGoal ∧ old.goal = some g') →
            new = { old with
              state := .moving, goal := some g', owner := o, settle := 0, jog := none, jogTimer := none
              stallTimer := if old.state = .moving ∨ old.state = .jogging then old.stallTimer else none
              faultCause := .none }))
  ∧ (∀ (c : Ctx) (o : Owner) (a : Acting) (x : Axis),
    let old := a.axes.get x
    let new := (a.release c o).axes.get x
    (old.owner ≠ o → new = old)
    ∧ (old.owner = o →
        (old.state = .moving ∨ old.state = .held → new = { old with
          state := .stopping, owner := .none, goal := none, settle := 0, jog := none, jogTimer := none
          stallTimer := none, faultCause := .none })
        ∧ (old.state ≠ .moving → old.state ≠ .held → new = { old with owner := .none })))
  ∧ ∀ (c : Ctx) (o : Owner) (goal : Axis → Option Int) (a : Acting),
    (a.claim c o goal).out.driveQueue = a.out.driveQueue ∧ (a.claim c o goal).search = a.search
      ∧ (a.claim c o goal).seq = a.seq
      ∧ a.claim c o goal = a.shift c (fun _ => none) (fun x _ => (a.claim c o goal).axes.get x)
      ∧ a.release c o = a.shift c (fun _ => none) (fun x _ => (a.release c o).axes.get x)

/-- O25. R81, R83: a JOG is checked for its axis, for the sender's rights and as a JOG claim, and refused with
the result and nothing changed; one that passes makes the axis JOGGING under owner JOG with the rate clamped
into -vmax..+vmax and the jog timer started, v_prev kept, and the stall timer with its position kept from MOVING
or JOGGING (R88); a running search that owned the axis ends and releases the other; the other axes are
unchanged. A DEMAND of a console or maintenance node for a drive node is taken as a JOG on the axis that names
it, with the same results and its own kind in the REPLY, and answered NO_DRIVE when no axis does. -/
def Obligations.JogAndConsoleDemandTaken : Prop :=
  (∀ (s : State) (h : Header) (w rate : Word), s.part.consumes h .jog [w, rate] →
      (axisOf w.toInt = none → exec (.jog h [w, rate]) s = .next (s.answered h .jog .badValue (s.entered h)))
      ∧ ∀ x, axisOf w.toInt = some x →
        (s.part.tab.mayMove h.src x = false →
          exec (.jog h [w, rate]) s = .next (s.answered h .jog .noRights (s.entered h)))
        ∧ (∀ r, s.part.tab.mayMove h.src x = true → claimCheck s.part.ctx .jog x (s.part.act.axes.get x) = some r →
          exec (.jog h [w, rate]) s = .next (s.answered h .jog r (s.entered h)))
        ∧ (s.part.tab.mayMove h.src x = true → claimCheck s.part.ctx .jog x (s.part.act.axes.get x) = none →
          ∃ a : Acting, exec (.jog h [w, rate]) s = .next (s.answered h .jog .done { s.entered h with act := a })
            ∧ Acting.Jogged (s.entered h).ctx x rate.toInt (s.entered h).act a))
  ∧ (∀ (s : State) (h : Header) (rate : Word) (e : NodeEntry), s.part.sen.held = false →
      s.part.admits h.port (frameOf h .demand [rate]) → s.part.tab.bound h.port h.dst = .far e →
      e.role = .drive → (s.part.tab.node h.src).role.jogs = true →
      (s.part.tab.axisOfDrive h.dst = none →
        exec (.consoleDemand h [rate]) s = .next (s.answered h .demand .noDrive (s.entered h)))
      ∧ ∀ x, s.part.tab.axisOfDrive h.dst = some x →
        (s.part.tab.mayMove h.src x = false →
          exec (.consoleDemand h [rate]) s = .next (s.answered h .demand .noRights (s.entered h)))
        ∧ (∀ r, s.part.tab.mayMove h.src x = true → claimCheck s.part.ctx .jog x (s.part.act.axes.get x) = some r →
          exec (.consoleDemand h [rate]) s = .next (s.answered h .demand r (s.entered h)))
        ∧ (s.part.tab.mayMove h.src x = true → claimCheck s.part.ctx .jog x (s.part.act.axes.get x) = none →
          ∃ a : Acting,
            exec (.consoleDemand h [rate]) s = .next (s.answered h .demand .done { s.entered h with act := a })
              ∧ Acting.Jogged (s.entered h).ctx x rate.toInt (s.entered h).act a))

/-- O26. STOP: every axis named is stopped, to STOPPED when its v_prev is 0 and to STOPPING otherwise, and an
axis STOPPING, STOPPED or in FAULT is as it was; a running search and a running sequence are aborted (O21, O39)
and release what they own, whichever axes are named; no DEMAND is placed, and the REPLY is DONE. That the axes
come first, then the search, then the sequencer is the model's reading (log 16). A word outside 0..3 is answered
BAD_VALUE with nothing changed. -/
def Obligations.StopStopsNamedAxes : Prop :=
  (∀ r : AxisRun,
    (r.state = .moving ∨ r.state = .atGoal ∨ r.state = .held ∨ r.state = .jogging →
      r.stoppedBy = { r with
        state := if r.vPrev = 0 then .stopped else .stopping
        owner := .none, goal := none, jog := none, jogTimer := none, settle := 0, stallTimer := none
        faultCause := .none })
    ∧ (r.state = .stopping ∨ r.state = .stopped ∨ r.state = .fault → r.stoppedBy = r))
  ∧ (∀ (s : State) (h : Header) (w : Word), s.part.consumes h .stop [w] → w.toInt < 0 ∨ 3 < w.toInt →
    exec (.stop h [w]) s = .next (s.answered h .stop .badValue (s.entered h)))
  ∧ ∀ (s : State) (h : Header) (w : Word) (named : Axis → Bool),
    s.part.consumes h .stop [w] → namedAxes w = some named →
    let e := s.entered h
    let stopped := e.act.shift e.ctx (fun _ => none) fun x r => if named x then r.stoppedBy else r
    ∃ a : Acting, exec (.stop h [w]) s = .next (s.answered h .stop .done { s.entered h with act := a })
      ∧ a = (stopped.abortSearch e.ctx).abortSequence e.ctx
      ∧ (∀ x,
          let old := s.part.act.axes.get x
          let stopped := if named x then old.stoppedBy else old
          a.axes.get x =
            if (stopped.owner = .search ∧ s.part.act.search.state.running = true)
                ∨ (stopped.owner = .safety ∧ s.part.act.seq.state ≠ .idle)
            then stopped.released else stopped)
      ∧ a.search.state.running = false ∧ a.seq.state = .idle
      ∧ a.out.driveQueue = s.part.act.out.driveQueue
      ∧ a.pointing.lastPreset = s.part.act.pointing.lastPreset ∧ a.pointing.snapshot = s.part.act.pointing.snapshot

/-- O27. R90: CLEAR names an axis, or all three with the value 3, and is answered BAD_VALUE otherwise. A named
axis in FAULT whose position is fresh, whose drive is READY and whose drive age timer runs becomes STOPPED;
every other axis is unchanged, the axes changing as one change of axis records without a DEMAND (O34); a FAILED
search returns to IDLE; and the REPLY is STILL_FAULTED, DONE or NO_CHANGE as R90 has it. The order in that
change and of the forgiven search after its STATUS requests (logs 14, 45), the place of the REPLY before the
arrivals of the line sets (log 14), and the bound of those (log 12) are the model's choice. -/
def Obligations.ClearReturnsFaultedAxes : Prop :=
  (∀ w : Word, (w.toInt < 0 ∨ 3 < w.toInt → namedAxes w = none)
    ∧ (∀ x, w.toInt = axisCode x → ∃ f, namedAxes w = some f ∧ ∀ y, f y = decide (y = x))
    ∧ (w.toInt = 3 → ∃ f, namedAxes w = some f ∧ ∀ y, f y = true))
  ∧ (∀ (s : State) (h : Header) (w : Word), s.part.consumes h .clear [w] → namedAxes w = none →
    exec (.clear h [w]) s = .next (s.answered h .clear .badValue (s.entered h)))
  ∧ ∀ (s : State) (h : Header) (w : Word) (named : Axis → Bool),
    s.part.consumes h .clear [w] → namedAxes w = some named →
    let faulted := fun x => named x = true ∧ (s.part.act.axes.get x).state = .fault
    let clearable := fun x => (s.part.sen.image[positionOf x]).state = .fresh
      ∧ (s.part.act.axes.get x).drive = .ready ∧ ∃ left, (s.part.act.axes.get x).driveAge = .running left
    ∃ (a : Acting) (r : Result), exec (.clear h [w]) s = .next (s.answered h .clear r { s.entered h with act := a })
      ∧ a = { (s.entered h).act.shift (s.entered h).ctx (fun _ => none) (fun x _ => a.axes.get x) with
          search := a.search }
      ∧ (∀ x, faulted x → clearable x → a.axes.get x = { s.part.act.axes.get x with
          state := .stopped, faultCause := .none, owner := .none, goal := none, vPrev := 0, jog := none
          jogTimer := none, stallTimer := none })
      ∧ (∀ x, ¬(faulted x ∧ clearable x) → a.axes.get x = s.part.act.axes.get x)
      ∧ a.search = (if s.part.act.search.state = .failed then
          { s.part.act.search with state := .idle, reason := .none } else s.part.act.search)
      ∧ a.seq = s.part.act.seq ∧ a.out.driveQueue = s.part.act.out.driveQueue
      ∧ ((∃ x, faulted x ∧ ¬clearable x) → r = .stillFaulted)
      ∧ ((∀ x, faulted x → clearable x) → ((∃ x, faulted x) ∨ s.part.act.search.state = .failed) → r = .done)
      ∧ ((∀ x, ¬faulted x) → s.part.act.search.state ≠ .failed → r = .noChange)

/-- O28. DRIVE_STATUS: the axis that names its source takes the drive state and the cause word; in OPERATING its
drive age timer restarts, and the axis enters FAULT as R86 has it, with all that follows from that (O33); in
UNCONFIGURED no axis state changes. No axis that another drive serves, and none when no axis names the source,
changes but by a release of the ended client. A mirrored frame leaves its copy too, placed after the frame has
been taken (O47; the model's choice, log 19). -/
def Obligations.DriveStatusSetsDrive : Prop :=
  ∀ (s : State) (h : Header) (st cause : Word) (d : DriveState),
    s.part.consumes h .driveStatus [st, cause] → driveStateOf st.toInt = some d →
    let e := s.entered h
    let taken := e.take (frameOf h .driveStatus [st, cause])
    ∃ p : Part, exec (.driveStatus h [st, cause]) s = .next (s.settled p)
      ∧ p.tab = s.part.tab ∧ p.sen = (s.entered h).sen
      ∧ p = { taken with act := { taken.act with out := p.act.out } }
      ∧ ((s.part.tab.node h.src).mirror = false → p = taken)
      ∧ (s.part.tab.axisOfDrive h.src = none → p.act.axes = s.part.act.axes ∧ taken = e)
      ∧ ∀ x, s.part.tab.axisOfDrive h.src = some x →
          let old := s.part.act.axes.get x
          let new := p.act.axes.get x
          let faults := s.part.sen.mode = .operating ∧ old.state ≠ .fault
            ∧ (d = .fault ∨ (d = .notReady ∧ (old.state = .moving ∨ old.state = .jogging ∨ old.state = .atGoal)))
          let told : Acting := { e.act with axes := s.part.act.axes.set x { old with
            drive := d, driveCause := cause
            driveAge := if s.part.sen.mode = .operating then .running ((s.part.tab.guard.get x).ageLimit * 10000)
              else old.driveAge } }
          new.drive = d ∧ new.driveCause = cause
          ∧ new.driveAge = (if s.part.sen.mode = .operating then .running (s.part.tab.guard.get x).ageTime
              else old.driveAge)
          ∧ (faults → new.state = .fault ∧ new.owner = .none ∧ new.goal = none ∧ new.vPrev = 0
              ∧ new.faultCause = (if d = .fault then .driveFault else .driveDropped)
              ∧ taken = { e with act :=
                  told.enterFault e.ctx x (if d = .fault then .driveFault else .driveDropped) }
              ∧ ∀ y, y ≠ x → p.act.axes.get y = s.part.act.axes.get y
                ∨ p.act.axes.get y = (s.part.act.axes.get y).released)
          ∧ (¬faults → taken = { e with act := told } ∧ new.state = old.state ∧ new.owner = old.owner ∧ new.goal = old.goal
              ∧ new.vPrev = old.vPrev ∧ new.faultCause = old.faultCause
              ∧ ∀ y, y ≠ x → p.act.axes.get y = s.part.act.axes.get y)

/-- O29. R72 to R76, R86, R88: one servo step of an axis, by the state in which it begins: the error, the raw
demand, the three clamps, the direction test, and the state, v_prev and settle run that the step leaves. A
STOPPED or FAULT axis has v_prev 0. The stall timer is stopped by a rate below the stall demand, starts from the
present position at one of at least the stall demand when it is stopped and the step begins and ends in MOVING
or JOGGING, runs on in them, and stops with them; that a start asks for both the step's first state and its last
is the model's reading (log 23). A HELD axis whose drive is NOT_READY stays HELD. Goal, owner and update timer
are not the step's but that a goal is dropped with the state that has none. A HELD axis whose raw demand is 0
has its step counted, whatever its error, so its settle run is 1 (R76). That with raw demand 0 and the drive
NOT_READY the axis stays HELD, by R86 over R75, is the model's reading (log 44). -/
def Obligations.ServoStepAsTable : Prop :=
  ∀ (c : Ctx) (x : Axis) (r : AxisRun),
    let m := c.tab.motion.get x
    let p := c.pos x
    let e := r.goal.getD p - p
    let near := fun k : Nat => -(k : Int) ≤ e ∧ e ≤ k
    let raw : Int :=
      if r.state = .jogging then r.jog.getD 0
      else if r.state = .stopping ∨ near m.deadband then 0
      else (m.gain * e).tdiv 16
    let limited := max (-(m.vmax : Int)) (min m.vmax raw)
    let slewed := max (r.vPrev - m.accel) (min (r.vPrev + m.accel) limited)
    let v := max (-(m.vmax : Int)) (min m.vmax slewed)
    let blocked := v ≠ 0 ∧ (hasDirection c.sen.permit (directionOf x v) = false
      ∨ (0 < v ∧ m.softMax ≤ p) ∨ (v < 0 ∧ p ≤ m.softMin)
      ∨ (x = .mast ∧ v < 0 ∧ p ≤ c.tab.pointing.clearHeight ∧ ¬(c.inStow .pan = true ∧ c.inStow .tilt = true)))
    let run := if near m.deadband then r.settle + 1 else 0
    let new := r.servo c x
    let settles := if m.settleCount ≤ run then new.state = .atGoal ∧ new.settle = 0
      else new.state = .moving ∧ new.settle = run
    let holds := new.state = .held ∧ new.settle = 0 ∧ new.vPrev = 0
    (r.state = .stopped ∨ r.state = .fault → new.state = r.state ∧ new.vPrev = 0)
    ∧ (r.state = .moving → (blocked → holds) ∧ (¬blocked → new.vPrev = v ∧ settles))
    ∧ (r.state = .atGoal → (blocked → holds)
        ∧ (¬blocked → new.vPrev = v ∧ (near (2 * m.deadband) → new.state = .atGoal)
            ∧ (¬near (2 * m.deadband) → new.state = .moving ∧ new.settle = 0)))
    ∧ (r.state = .jogging → new.state = .jogging ∧ new.jog = r.jog ∧ (blocked → new.vPrev = 0)
        ∧ (¬blocked → new.vPrev = v))
    ∧ (r.state = .stopping → (blocked ∨ v = 0 → new.state = .stopped ∧ new.vPrev = 0)
        ∧ (¬blocked → v ≠ 0 → new.state = .stopping ∧ new.vPrev = v))
    ∧ (r.state = .held → (r.drive = .notReady → new.state = .held ∧ new.vPrev = 0)
        ∧ (raw = 0 → r.drive ≠ .notReady → new.vPrev = 0
            ∧ (m.settleCount ≤ 1 → new.state = .atGoal ∧ new.settle = 0)
            ∧ (1 < m.settleCount → new.state = .moving ∧ new.settle = 1))
        ∧ (raw ≠ 0 → blocked → new.state = .held ∧ new.vPrev = 0)
        ∧ (raw ≠ 0 → ¬blocked → r.drive ≠ .notReady → new.state = .moving ∧ new.vPrev = v ∧ new.settle = 0))
    ∧ (r.state = .moving ∨ r.state = .atGoal ∨ r.state = .held → new.goal = r.goal)
    ∧ new.owner = r.owner ∧ new.updateTimer = r.updateTimer ∧ new.drive = r.drive ∧ new.driveAge = r.driveAge
    ∧ new.driveCause = r.driveCause
    ∧ (r.state = .jogging → new.jogTimer = r.jogTimer) ∧ (r.state = .fault → new.faultCause = r.faultCause)
    ∧ (r.state = .stopped ∨ r.state = .fault ∨ r.state = .jogging ∨ r.state = .stopping
        ∨ (r.state = .atGoal ∧ new.state = .atGoal) ∨ (r.state = .held ∧ new.state = .held) → new.settle = r.settle)
    -- the stall timer
    ∧ (let g := c.tab.guard.get x
      let runs := (r.state = .moving ∨ r.state = .jogging) ∧ (new.state = .moving ∨ new.state = .jogging)
      (new.vPrev.natAbs < g.stallDemand → new.stallTimer = none ∧ new.stallPos = r.stallPos)
      ∧ (g.stallDemand ≤ new.vPrev.natAbs →
        (runs → r.stallTimer = none → new.stallTimer = some (g.stallTime * 100000) ∧ new.stallPos = some p)
        ∧ (runs → r.stallTimer.isSome = true → new.stallTimer = r.stallTimer ∧ new.stallPos = r.stallPos)
        ∧ (¬runs → new.state = r.state → new.stallTimer = r.stallTimer ∧ new.stallPos = r.stallPos)
        ∧ (¬runs → new.state ≠ r.state → new.stallTimer = none ∧ new.stallPos = r.stallPos)))

/-- O30. R73, R74: the laws of the drive demands at a servo step: the rate lies within -vmax..+vmax; it differs
from v_prev by at most the accel step, or is 0, or lies strictly between 0 and v_prev; a rate other than 0
has its direction in the permit set; and the mast moves down only from above the clear height or with pan
and tilt within their stow windows, which asks that they are fresh. An axis that is STOPPED or in FAULT has rate 0;
so with the position of every other axis fresh, which O58 says that every step keeps, an axis with a rate other
than 0 has a fresh position. -/
def Obligations.DemandLawsAtServoStep : Prop :=
  ∀ (c : Ctx) (x : Axis) (r : AxisRun),
    let m := c.tab.motion.get x
    let v := (r.servo c x).vPrev
    (v ≤ m.vmax ∧ -(m.vmax : Int) ≤ v)
      ∧ ((r.vPrev - m.accel ≤ v ∧ v ≤ r.vPrev + m.accel) ∨ v = 0 ∨ (0 < v ∧ v < r.vPrev) ∨ (r.vPrev < v ∧ v < 0))
      ∧ (v ≠ 0 → hasDirection c.sen.permit (directionOf x v) = true)
      ∧ (r.freshLaw c.sen x → v ≠ 0 → (c.sen.image[positionOf x]).state = .fresh)
      ∧ (x = .mast → v < 0 → c.tab.pointing.clearHeight < c.pos .mast ∨ (c.inStow .pan = true ∧ c.inStow .tilt = true))

/-- O31. UPDATE_EXPIRY: the timer reloads; with the axis's previous DEMAND still waiting nothing else happens;
otherwise the axis makes one servo step, sends its v_prev in one DEMAND when port D is not CLOSED, no other
axis changes by the step, and the change is then handed on. That the expiry acts whatever time the timer
still shows is the model's choice (log 3). -/
def Obligations.UpdateExpiryMakesOneStep : Prop :=
  ∀ (s : State) (x : Axis), s.part.sen.held = false → (s.part.act.axes.get x).updateTimer.isSome = true →
    let reloaded : AxisRun :=
      { s.part.act.axes.get x with updateTimer := some (s.part.tab.motion.get x).updateTime }
    let axes := s.part.act.axes.set x reloaded
    (s.part.act.out.demandWaits x = true →
      exec (.updateExpiry x) s = .next (s.settled { s.part with act := { s.part.act with axes := axes } }))
    ∧ (s.part.act.out.demandWaits x = false →
      ∃ a : Acting,
        exec (.updateExpiry x) s = .next (s.settled { s.part with act := a.handAxes s.part.ctx axes })
        ∧ a.axes = axes.set x (reloaded.servo s.part.ctx x)
        ∧ a = ({ s.part.act with axes := axes } : Acting).shift s.part.ctx
            (fun y => if y = x then some (reloaded.servo s.part.ctx x).vPrev else none)
            (fun y r => if y = x then reloaded.servo s.part.ctx x else r)
        ∧ a.search = s.part.act.search ∧ a.seq = s.part.act.seq
        ∧ (s.part.tab.ports.d.state ≠ .closed →
            Output.sends (demandFrame s.part.tab x (reloaded.servo s.part.ctx x).vPrev) x a.out))

/-- O32. The jog, stall and drive age timers of an axis at their expiries. The jog timer stops the axis, which
ramps to zero; the stall timer faults an axis that has moved less than the stall distance, and otherwise starts
anew from the present position; the drive age timer faults an axis that is not in FAULT, and stays expired. Each
fault is an entry into FAULT with all that follows from it (O33). That an expiry acts whatever time its timer
still shows is the model's choice (log 3). -/
def Obligations.AxisTimersAtExpiry : Prop :=
  ∀ (s : State) (x : Axis), s.part.sen.held = false →
    let r := s.part.act.axes.get x
    let g := s.part.tab.guard.get x
    let p := s.part.ctx.pos x
    (r.state = .jogging → r.jogTimer.isSome = true →
      ∃ a : Acting, exec (.jogTimerExpiry x) s = .next (s.settled { s.part with act := a })
        ∧ a = s.part.act.shift s.part.ctx (fun _ => none) (fun y old => if y = x then old.stoppedBy else old)
        ∧ a.axes = s.part.act.axes.set x r.stoppedBy ∧ a.search = s.part.act.search ∧ a.seq = s.part.act.seq
        ∧ a.out.driveQueue = s.part.act.out.driveQueue)
    ∧ (∀ from_, r.stallTimer.isSome = true → r.stallPos = some from_ →
        ((p - from_).natAbs < g.stallDist → r.state ≠ .fault →
          ∃ a : Acting, exec (.stallTimerExpiry x) s = .next (s.settled { s.part with act := a })
            ∧ a = s.part.act.enterFault s.part.ctx x .stall
            ∧ (a.axes.get x).state = .fault ∧ (a.axes.get x).faultCause = .stall ∧ (a.axes.get x).vPrev = 0
            ∧ (a.axes.get x).owner = .none ∧ (a.axes.get x).goal = none)
        ∧ (g.stallDist ≤ (p - from_).natAbs →
          exec (.stallTimerExpiry x) s = .next (s.settled { s.part with act := { s.part.act with
            axes := s.part.act.axes.set x { r with stallTimer := some g.stallWait, stallPos := some p } } })))
    ∧ (∀ left, r.driveAge = .running left →
        (r.state ≠ .fault →
          let silent : Acting := { s.part.act with axes := s.part.act.axes.set x { r with driveAge := .expired } }
          ∃ a : Acting, exec (.driveAgeExpiry x) s = .next (s.settled { s.part with act := a })
            ∧ a = silent.enterFault s.part.ctx x .driveSilent
            ∧ (a.axes.get x).state = .fault ∧ (a.axes.get x).faultCause = .driveSilent ∧ (a.axes.get x).vPrev = 0
            ∧ (a.axes.get x).owner = .none ∧ (a.axes.get x).goal = none ∧ (a.axes.get x).driveAge = .expired)
        ∧ (r.state = .fault →
          exec (.driveAgeExpiry x) s = .next (s.settled { s.part with act := { s.part.act with
            axes := s.part.act.axes.set x { r with driveAge := .expired } } })))

/-- O33. R89: an axis that enters FAULT drops goal, owner and jog request, has v_prev 0 and sends an immediate
zero (in OPERATING: the model's reading, log 11), and keeps its update timer; the search that owned it fails
with AXIS_FAULT and the sequence that owned it ends FAILED with AXIS_FAULT, each releasing what it still owns;
every other axis is unchanged, but that a suspended search which the end of a LOWER lets go on may fail and
release its own (R117, R137); and AXIS_FAULT is raised, last of all (the model's reading, log 15), with the
axis, the cause, the drive's cause word for DRIVE_FAULT and 0 for another, and the position, absent where it is
not fresh; it enters the events-seen set (with no STATUS among the urgent frames waiting, R170). -/
def Obligations.FaultEntryAsStated : Prop :=
  ∀ (c : Ctx) (a : Acting) (x : Axis) (cause : FaultCause),
    let old := a.axes.get x
    let b := a.enterFault c x cause
    let new := b.axes.get x
    let searchFails := old.owner = .search ∧ a.search.state.running = true
    let sequenceFails := old.owner = .safety ∧ a.seq.state ≠ .idle
    new.state = .fault ∧ new.faultCause = cause ∧ new.owner = .none ∧ new.goal = none ∧ new.jog = none
      ∧ new.settle = 0 ∧ new.vPrev = 0 ∧ new.stallTimer = none ∧ new.updateTimer = old.updateTimer
      ∧ new = { old with
          state := .fault, faultCause := cause, owner := .none, goal := none, jog := none, jogTimer := none
          settle := 0, vPrev := 0, stallTimer := none }
      ∧ (∀ y, y ≠ x → ¬(a.seq.state = .lowering ∧ a.search.state = .suspended) → b.axes.get y =
          if (searchFails ∧ (a.axes.get y).owner = .search) ∨ (sequenceFails ∧ (a.axes.get y).owner = .safety)
          then (a.axes.get y).released else a.axes.get y)
      ∧ (∀ y, y ≠ x → b.axes.get y = a.axes.get y ∨ b.axes.get y = (a.axes.get y).released)
      ∧ (searchFails → b.search.state = .failed ∧ b.search.reason = .axisFault)
      ∧ (sequenceFails → b.seq.state = .idle ∧ b.seq.lastName = a.seq.state.sequence ∧ b.seq.lastOutcome = .failed
          ∧ b.seq.lastReason = .axisFault)
      ∧ (¬searchFails → ¬sequenceFails → b.search = a.search ∧ b.seq = a.seq)
      ∧ (let zeroed := a.shift c (immediateZeros c fun y => decide (y = x))
            fun y r => if y = x then new else r
        let d := if searchFails then zeroed.failSearch c .axisFault
          else if sequenceFails then zeroed.endSequence c .failed .axisFault .release else zeroed
        d.axes = b.axes ∧ d.search = b.search ∧ d.seq = b.seq
          ∧ b = d.raise c .axisFault [BitVec.ofInt 16 (axisCode x), BitVec.ofInt 16 (faultCauseCode cause),
              if cause = .driveFault then old.driveCause else 0,
              BitVec.ofInt 16 (if (c.sen.image[positionOf x]).state = .fresh then c.pos x else -32768)])
      ∧ (a.out.urgent.countP CEntry.isStatus = 0 → (b.out.seen &&& eventBit .axisFault) ≠ 0)
      ∧ (c.sen.mode = .operating → c.tab.ports.d.state ≠ .closed → Output.sends (demandFrame c.tab x 0) x b.out)

/-- O34. R55, R78, R91: a permit set that is formed as it was is handed to nobody. A change stops each axis
whose v_prev has a direction the set has lost, before anything is handed on: MOVING and AT_GOAL are HELD with
goal and owner kept, JOGGING stays with its request, STOPPING is STOPPED, each with v_prev 0; every other axis
is unchanged. Then the changes of axes are handed to the search, to pointing and to the sequencer (O39, O36,
O41), TRACK to the search, and a STATUS is requested. A change of axis records sends its DEMANDs, and requests a
STATUS for each axis whose state changed. The order of these hand-offs is the model's choice (log 14), and so is
that of the axes in them, mast, pan, tilt (logs 24, 45). That an immediate zero is sent in OPERATING alone is
its reading (log 11, of R178 over R79). -/
def Obligations.PermitLossHoldsAxes : Prop :=
  (∀ p : Part, p.formPermit.sen.permit = p.ctx.permitSet ∧ (p.sen.permit = p.ctx.permitSet → p.formPermit = p)
      ∧ (p.sen.permit ≠ p.ctx.permitSet →
        let q : Part := { p with sen := { p.sen with permit := p.ctx.permitSet } }
        p.formPermit = { q with act := q.act.seePermit q.ctx p.sen.permit }))
  ∧ (∀ (c : Ctx) (old : PerAxis AxisRun) (a : Acting),
      a.handAxes c old = ((a.searchSeesAxes c old).searchAfter c).sequencerSeesAxes c old)
  -- the one change of axis records (R77, R91)
  ∧ (∀ (c : Ctx) (chosen : Axis → Bool) (x : Axis),
      immediateZeros c chosen x = if c.sen.mode = .operating ∧ chosen x = true then some 0 else none)
  ∧ (∀ (c : Ctx) (rate : Axis → Option Int) (f : Axis → AxisRun → AxisRun) (a : Acting),
      let send := fun (x : Axis) (b : Acting) => match rate x with
        | some v => ({ b with out := b.out.sendDemand c.tab (statusWords c b) x v } : Acting)
        | none => b
      ∃ b : Acting, b.search = a.search ∧ b.seq = a.seq ∧ b.out = a.out ∧ (∀ x, b.axes.get x = f x (a.axes.get x))
        ∧ (let sent := send .tilt (send .pan (send .mast b))
          let report := fun (x : Axis) (d : Acting) =>
            if (b.axes.get x).state = (a.axes.get x).state then d else d.requestStatus c
          a.shift c rate f = report .tilt (report .pan (report .mast sent))))
  ∧ (∀ (c : Ctx) (old : BitVec 7) (a : Acting),
      ∃ b : Acting, a.seePermit c old = ((b.handAxes c a.axes).searchSeesPermit c old).requestStatus c
        ∧ b.search = a.search ∧ b.seq = a.seq
        ∧ b = a.shift c (immediateZeros c fun x => decide (b.axes.get x ≠ a.axes.get x)) (fun x _ => b.axes.get x)
        ∧ ∀ x,
          let r := a.axes.get x
          let lost := r.vPrev ≠ 0 ∧ hasDirection old (directionOf x r.vPrev) = true
            ∧ hasDirection c.sen.permit (directionOf x r.vPrev) = false
          (lost → b.axes.get x = r.held
            ∧ (c.sen.mode = .operating → c.tab.ports.d.state ≠ .closed → Output.sends (demandFrame c.tab x 0) x b.out))
          ∧ (¬lost → b.axes.get x = r))
  ∧ ∀ r : AxisRun,
      (r.state = .moving ∨ r.state = .atGoal → r.held = { r with
          state := .held, vPrev := 0, settle := 0, jog := none, jogTimer := none, stallTimer := none
          faultCause := .none })
      ∧ (r.state = .stopping → r.held = { r with
          state := .stopped, vPrev := 0, goal := none, jog := none, jogTimer := none, stallTimer := none
          faultCause := .none })
      ∧ (r.state = .jogging ∨ r.state = .held ∨ r.state = .stopped ∨ r.state = .fault →
          r.held = { r with vPrev := 0, stallTimer := none })

/-! ### Pointing -/

/-- O35. R100: the site angle lies within 0..35999 and faces the site; the pan goal is one of the two positions
A and A - 36000 that lies within the soft limits, the nearer to the present position, A when both are as
near; with neither within them there is none. -/
def Obligations.PanGoalFacesTheSite : Prop :=
  (∀ bearing heading declination : Int,
    let angle := siteAngle bearing heading declination
    0 ≤ angle ∧ angle ≤ 35999 ∧ ∃ k : Int, angle = bearing - (heading + declination) + 36000 * k)
  ∧ ∀ (m : MotionRecord) (p angle : Int),
    let kept := fun g => (g = angle ∨ g = angle - 36000) ∧ m.softMin ≤ g ∧ g ≤ m.softMax
    (panChoice m p angle = none ↔ ∀ g, ¬kept g)
    ∧ ∀ g, panChoice m p angle = some g →
        kept g ∧ ∀ g', kept g' → (g - p).natAbs ≤ (g' - p).natAbs ∧ ((g - p).natAbs = (g' - p).natAbs → g' = angle → g = angle)

/-- O36. AIM: its checks, in their order, the preset number's range first; refused with its first failing check
and nothing changed; accepted, it claims the axes its preset moves as owner AIM, the mast with the height, pan
with the goal of O35 and tilt with the elevation, aborts a search that owned pan or tilt, sets the three runtime
fields, and replies CLAMPED when any goal was clamped and DONE otherwise; then a search-after may start at once.
A pending search-after is dropped by a change that leaves pan or tilt without owner AIM (R103); it waits until
pan and tilt are both AT_GOAL with owner AIM, and is then dropped and the search asked to start for the node it
was pending for, with the checks of O38 after a FAILED search is forgiven; a start that passes goes on as O38
has it, one refused with NO_CHANGE raises nothing, and another refusal raises SEARCH_END with REFUSED and the
result. What the third and the fourth word of that event carry is the model's reading (log 34). -/
def Obligations.AimAcceptedOrRefused : Prop :=
  (∀ (c : Ctx) (sender : Node) (r : PresetRecord) (a : Acting),
    let pan := fun b : Int => panChoice c.tab.motion.pan (c.pos .pan)
      (siteAngle b (c.sen.image[(3 : Fin 24)]).value c.tab.pointing.declination)
    aimChecks c sender r a =
      if c.sen.mode = .unconfigured then some .notStarted
      else if r.present = false then some .emptyPreset
      else if (r.height.isSome = true ∧ c.tab.mayMove sender .mast = false)
          ∨ (r.bearing.isSome = true ∧ c.tab.mayMove sender .pan = false)
          ∨ (r.elevation.isSome = true ∧ c.tab.mayMove sender .tilt = false) then some .noRights
      else if r.bearing.isSome = true ∧ (c.sen.image[(3 : Fin 24)]).state ≠ .fresh then some .noHeading
      else if r.bearing.isSome = true ∧ (c.sen.image[(1 : Fin 24)]).state ≠ .fresh then some .noPosition
      else if (r.bearing.any fun b => decide (pan b = none)) = true then some .outOfTravel
      else if (r.elevation.any fun e =>
          decide (e < c.tab.motion.tilt.softMin ∨ c.tab.motion.tilt.softMax < e)) = true then some .outOfTravel
      else claimChecks c .aim (fun | .mast => r.height.isSome | .pan => r.bearing.isSome | .tilt => r.elevation.isSome) a)
  ∧ (∀ (s : State) (h : Header) (w : Word), s.part.consumes h .aim [w] → w.toInt < 0 ∨ 15 < w.toInt →
    exec (.aim h [w]) s = .next (s.answered h .aim .badValue (s.entered h)))
  ∧ (∀ w : Word, (w.toInt < 0 ∨ 15 < w.toInt → finIn 15 w = none)
    ∧ ∀ n : Fin 16, finIn 15 w = some n ↔ w.toInt = n.val)
  ∧ (∀ (c : Ctx) (a : Acting),
    let ready := a.axes.pan.state = .atGoal ∧ a.axes.tilt.state = .atGoal
      ∧ a.axes.pan.owner = .aim ∧ a.axes.tilt.owner = .aim
    let idle : SearchRun :=
      if a.search.state = .failed then { a.search with state := .idle, reason := .none } else a.search
    let asked : Acting := { a with pointing := { a.pointing with pending := none }, search := idle }
    (a.pointing.pending = none → a.searchAfter c = a)
    ∧ ∀ sender, a.pointing.pending = some sender →
      (¬ready → a.searchAfter c = a)
      ∧ (ready → searchChecks c sender asked = none → a.searchAfter c = asked.beginSearch c)
      ∧ (ready → searchChecks c sender asked = some .noChange → a.searchAfter c = asked)
      ∧ (ready → ∀ refusal, searchChecks c sender asked = some refusal → refusal ≠ .noChange →
          a.searchAfter c = asked.raise c .searchEnd [4, BitVec.ofNat 16 (resultCode refusal), 0x8000,
            BitVec.ofNat 16 a.search.count]))
  ∧ (∀ (c : Ctx) (rate : Axis → Option Int) (f : Axis → AxisRun → AxisRun) (a : Acting),
    let new := (a.shift c rate f).axes
    (a.shift c rate f).pointing =
      if new.pan.owner = .aim ∧ new.tilt.owner = .aim then a.pointing else { a.pointing with pending := none })
  ∧ (∀ (c : Ctx) (r : PresetRecord),
    aimGoals c r .mast = r.height ∧ aimGoals c r .tilt = r.elevation
    ∧ (r.bearing = none → aimGoals c r .pan = none)
    ∧ ∀ bearing, r.bearing = some bearing → aimGoals c r .pan = panChoice c.tab.motion.pan (c.pos .pan)
        (siteAngle bearing (c.sen.image[(3 : Fin 24)]).value c.tab.pointing.declination))
  ∧ (∀ (t : Tables) (goal : Axis → Option Int), anyClamped t goal = true ↔ ∃ x g, goal x = some g
    ∧ max (t.motion.get x).softMin (min (t.motion.get x).softMax g) ≠ g)
  ∧ ∀ (s : State) (h : Header) (w : Word) (n : Fin 16), s.part.consumes h .aim [w] → finIn 15 w = some n →
    let e := s.entered h
    let c := e.ctx
    let r := s.part.tab.presets[n]
    let goal := aimGoals c r
    (∀ result, aimChecks c h.src r e.act = some result →
      exec (.aim h [w]) s = .next (s.answered h .aim result e))
    ∧ (aimChecks c h.src r e.act = none →
      ∃ a : Acting,
        exec (.aim h [w]) s = .next (s.settled { e with act :=
          (a.reply c h.src .aim (if anyClamped c.tab goal then .clamped else .done) []).searchAfter c })
        ∧ a.pointing.lastPreset = some n
        ∧ a.pointing.snapshot = (if r.bearing.isSome then some (s.part.sen.image[(3 : Fin 24)]).value else none)
        ∧ a.pointing.pending = (if r.searchAfter then some h.src else none)
        ∧ Acting.Aimed c goal e.act a)

/-- O37. GOTO: its checks, in their order; refused with its first failing check and nothing changed; accepted, it
claims the axes it moves as owner AIM with its goals clamped, ends a search that owned pan or tilt, drops a
pending search-after, keeps the last preset and the snapshot, and replies CLAMPED when any goal was clamped
and DONE otherwise. -/
def Obligations.GotoAcceptedOrRefused : Prop :=
  (∀ (c : Ctx) (sender : Node) (goal : Axis → Option Int) (a : Acting), gotoChecks c sender goal a =
    if goal .mast = none ∧ goal .pan = none ∧ goal .tilt = none then some .badValue
    else if c.sen.mode = .unconfigured then some .notStarted
    else if ((goal .mast).isSome = true ∧ c.tab.mayMove sender .mast = false)
        ∨ ((goal .pan).isSome = true ∧ c.tab.mayMove sender .pan = false)
        ∨ ((goal .tilt).isSome = true ∧ c.tab.mayMove sender .tilt = false) then some .noRights
    else claimChecks c .aim (fun x => (goal x).isSome) a)
  ∧ ∀ (s : State) (h : Header) (mast pan tilt : Word), s.part.consumes h .goto [mast, pan, tilt] →
    let e := s.entered h
    let c := e.ctx
    let goal : Axis → Option Int := fun
      | .mast => if mast.toInt = -32768 then none else some mast.toInt
      | .pan => if pan.toInt = -32768 then none else some pan.toInt
      | .tilt => if tilt.toInt = -32768 then none else some tilt.toInt
    (∀ result, gotoChecks c h.src goal e.act = some result →
      exec (.goto h [mast, pan, tilt]) s = .next (s.answered h .goto result e))
    ∧ (gotoChecks c h.src goal e.act = none →
      ∃ (a : Acting) (result : Result),
        exec (.goto h [mast, pan, tilt]) s = .next (s.answered h .goto result { e with act := a })
        ∧ (result = .clamped ∨ result = .done)
        ∧ (result = .clamped ↔ ∃ x g, goal x = some g
            ∧ max (c.tab.motion.get x).softMin (min (c.tab.motion.get x).softMax g) ≠ g)
        ∧ a.pointing = { s.part.act.pointing with pending := none }
        ∧ Acting.Aimed c goal e.act a)

/-! ### Peak search -/

/-- O38. SEARCH_START: its checks, in their order; a FAILED search is forgiven first; a refused start changes
nothing more; an accepted one claims pan and tilt (O24) as owner SEARCH, an AT_GOAL axis with its goal, which
lies within its soft limits (O58), staying AT_GOAL, a STOPPED one with its clamped position, becoming MOVING,
sets the runtime of R111, and is suspended at once (O39) while a LOWER runs. A pending search-after is dropped
by the claims (O36). -/
def Obligations.SearchStartAsStated : Prop :=
  (∀ (c : Ctx) (sender : Node) (a : Acting),
    let pan := a.axes.pan.state
    let tilt := a.axes.tilt.state
    searchChecks c sender a =
      if c.sen.mode = .unconfigured then some .notStarted
      else if a.search.state = .probing ∨ a.search.state = .peaked ∨ a.search.state = .suspended then some .noChange
      else if c.tab.mayMove sender .pan = false ∨ c.tab.mayMove sender .tilt = false then some .noRights
      else if (c.sen.image[(8 : Fin 24)]).state ≠ .fresh then some .noLevel
      else if hasDirection c.sen.permit .track = false then some .inhibited
      else (claimChecks c .search (fun | .mast => false | .pan => true | .tilt => true) a).or
        (if (pan = .atGoal ∧ tilt = .atGoal) ∨ (pan = .stopped ∧ tilt = .stopped) then none else some .busyOwner))
  ∧ (∀ (c : Ctx) (a : Acting),
    let goalOf := fun x => max (c.tab.motion.get x).softMin (min (c.tab.motion.get x).softMax
      ((a.axes.get x).goal.getD (c.pos x)))
    let claimed := a.claim c .search fun | .mast => none | .pan => some (goalOf .pan) | .tilt => some (goalOf .tilt)
    let begun : Acting := { claimed with search := { a.search with
      state := .probing, reason := .none, purpose := .base, centre := some ⟨goalOf .pan, goalOf .tilt⟩
      best := some ⟨goalOf .pan, goalOf .tilt⟩, bestLevel := none, peak := none, step := c.tab.search.s0, count := 0
      failed := 0, noGain := 0, gain := false, turn := .pan, positive := true, repeaks := 0, causes := .empty
      buffer := [], ring := [], history := [] } }
    (a.seq.state ≠ .lowering → a.beginSearch c = begun)
    ∧ (a.seq.state = .lowering → a.beginSearch c = begun.enterCause c fun k => { k with lowerRunning := true }))
  ∧ ∀ (s : State) (h : Header), s.part.consumes h .searchStart [] →
    let e := s.entered h
    let c := e.ctx
    let idle : SearchRun :=
      if s.part.act.search.state = .failed then { s.part.act.search with state := .idle, reason := .none }
      else s.part.act.search
    let before : Acting := { e.act with search := idle }
    let goalOf := fun x => max (c.tab.motion.get x).softMin (min (c.tab.motion.get x).softMax
      ((s.part.act.axes.get x).goal.getD (c.pos x)))
    let lowering := s.part.act.seq.state = .lowering
    (∀ r, searchChecks c h.src before = some r →
      exec (.searchStart h []) s = .next (s.answered h .searchStart r { e with act := before }))
    ∧ (searchChecks c h.src before = none →
      ∃ a : Acting, exec (.searchStart h []) s = .next (s.answered h .searchStart .done { e with act := a })
        ∧ a = before.beginSearch c ∧ a.axes.mast = s.part.act.axes.mast
        ∧ (∀ x, x ≠ .mast → (a.axes.get x).owner = .search ∧ (a.axes.get x).goal = some (goalOf x)
            ∧ (a.axes.get x).vPrev = (s.part.act.axes.get x).vPrev
            ∧ (a.axes.get x).state =
              (if (s.part.act.axes.get x).state = .atGoal ∧ (s.part.act.axes.get x).goal = some (goalOf x) then .atGoal
              else .moving))
        ∧ a.search.centre = some ⟨goalOf .pan, goalOf .tilt⟩ ∧ a.search.best = some ⟨goalOf .pan, goalOf .tilt⟩
        ∧ a.search.bestLevel = none ∧ a.search.peak = none ∧ a.search.step = c.tab.search.s0 ∧ a.search.count = 0
        ∧ a.search.failed = 0 ∧ a.search.noGain = 0 ∧ a.search.gain = false ∧ a.search.turn = .pan
        ∧ a.search.positive = true ∧ a.search.repeaks = 0 ∧ a.search.buffer = [] ∧ a.search.ring = []
        ∧ a.search.history = [] ∧ a.search.reason = .none ∧ a.search.purpose = .base
        ∧ (¬lowering → a.search.state = .probing ∧ a.search.causes = .empty)
        ∧ (lowering → a.search.state = .suspended ∧ a.search.from_ = .probing
            ∧ a.search.causes = { SuspendCauses.empty with lowerRunning := true }
            ∧ a.search.timer = some (c.tab.search.suspendLimit * 100000))
        ∧ a.seq = s.part.act.seq ∧ a.out.driveQueue = s.part.act.out.driveQueue)

/-- O39. SEARCH_END of a running search ends it, IDLE, with the REPLY DONE; of another it is answered NO_CHANGE
with nothing changed. SUSPEND_TIMER_EXPIRY of a running search fails it with SUSPEND_LIMIT, whatever time the
timer still shows (model's choice, log 3). An abort or a failure of a search that does not run changes nothing.
Each end releases the axes the search owned and raises SEARCH_END with the outcome, the failure reason, the best
level, absent where there is none, and the probe count (R125); that the peak level is then absent is the model's
reading, R108 over R124 and R125 (log 37). The search is told of a change of pan and tilt (R91): when one leaves
AT_GOAL the buffer and the ring of a running search are emptied (R112, R119); one that enters HELD is a cause of
suspension and one that leaves HELD is one no longer (R121); then a RETURN may be judged (O40). A cause of
suspension suspends a PROBING or PEAKED search and starts its timer, joins those of a SUSPENDED one, and is
not kept in IDLE or FAILED; the last cause that leaves resumes the search in the state it was suspended from,
with the measurement or the ring started anew; that a RETURN whose axes stand at the best position is then
judged at once is the model's reading (log 21). -/
def Obligations.SearchEndsAsStated : Prop :=
  (∀ (s : State) (h : Header), s.part.consumes h .searchEnd [] →
    (s.part.act.search.state = .idle ∨ s.part.act.search.state = .failed →
      exec (.searchEnd h []) s = .next (s.answered h .searchEnd .noChange (s.entered h)))
    ∧ (s.part.act.search.state = .probing ∨ s.part.act.search.state = .peaked
        ∨ s.part.act.search.state = .suspended →
      ∃ a : Acting, exec (.searchEnd h []) s = .next (s.answered h .searchEnd .done { s.entered h with act := a })
        ∧ a = (s.entered h).act.endSearch (s.entered h).ctx .idle .none .ended
        ∧ Acting.SearchOver .idle .none s.part.act a))
  ∧ (∀ (c : Ctx) (st : SearchState) (reason : FailureReason) (outcome : Ending) (a : Acting),
    (∃ b : Acting, b = ({ a with search := { a.search with
          state := st, reason := reason, buffer := [], ring := [], causes := .empty, timer := none, peak := none } } :
        Acting).release c .search
      ∧ b.search = { a.search with
          state := st, reason := reason, buffer := [], ring := [], causes := .empty, timer := none, peak := none }
      ∧ (∀ x, b.axes.get x = if (a.axes.get x).owner = .search then (a.axes.get x).released else a.axes.get x)
      ∧ b.seq = a.seq ∧ b.out.driveQueue = a.out.driveQueue
      ∧ a.endSearch c st reason outcome = b.raise c .searchEnd [BitVec.ofInt 16 (endingCode outcome),
          BitVec.ofInt 16 (failureReasonCode reason), BitVec.ofInt 16 (a.search.bestLevel.getD (-32768)),
          BitVec.ofNat 16 a.search.count])
    ∧ (let runs := a.search.state = .probing ∨ a.search.state = .peaked ∨ a.search.state = .suspended
      (runs → a.abortSearch c = a.endSearch c .idle .none .aborted)
      ∧ (runs → a.failSearch c reason = a.endSearch c .failed reason .failed)
      ∧ (¬runs → a.abortSearch c = a ∧ a.failSearch c reason = a)))
  ∧ (∀ (c : Ctx) (old : PerAxis AxisRun) (a : Acting),
    let new := a.axes
    let leaves := fun o n : AxisRun => o.state = .atGoal ∧ n.state ≠ .atGoal
    let held := fun o n : AxisRun => o.state ≠ .held ∧ n.state = .held
    let freed := fun o n : AxisRun => o.state = .held ∧ n.state ≠ .held
    let a₁ : Acting := if a.search.state.running = true ∧ (leaves old.pan new.pan ∨ leaves old.tilt new.tilt) then
      { a with search := { a.search with buffer := [], ring := [] } } else a
    let a₂ := if held old.pan new.pan then a₁.enterCause c fun k => { k with panHeld := true } else a₁
    let a₃ := if held old.tilt new.tilt then a₂.enterCause c fun k => { k with tiltHeld := true } else a₂
    let a₄ := if freed old.pan new.pan then a₃.leaveCause c fun k => { k with panHeld := false } else a₃
    let a₅ := if freed old.tilt new.tilt then a₄.leaveCause c fun k => { k with tiltHeld := false } else a₄
    a.searchSeesAxes c old = a₅.returnCheck c)
  ∧ (∀ s : State, s.part.sen.held = false → s.part.act.search.timer.isSome = true →
      s.part.act.search.state = .suspended →
      ∃ a : Acting, exec .suspendTimerExpiry s = .next (s.settled { s.part with act := a })
        ∧ a = s.part.act.endSearch s.part.ctx .failed .suspendLimit .failed
        ∧ Acting.SearchOver .failed .suspendLimit s.part.act a)
  ∧ (∀ (c : Ctx) (f : SuspendCauses → SuspendCauses) (a : Acting),
    let r := a.search
    let limit := c.tab.search.suspendLimit * 100000
    (r.state = .probing → a.enterCause c f = { a with search := { r with
        state := .suspended, from_ := .probing, timer := some limit, buffer := [], ring := [], causes := f r.causes } })
    ∧ (r.state = .peaked → a.enterCause c f = { a with search := { r with
        state := .suspended, from_ := .peaked, timer := some limit, buffer := [], ring := [], causes := f r.causes } })
    ∧ (r.state = .suspended → a.enterCause c f = { a with search := { r with causes := f r.causes } })
    ∧ (r.state = .idle ∨ r.state = .failed → a.enterCause c f = a)
    ∧ (r.state ≠ .suspended ∨ f r.causes = r.causes → a.leaveCause c f = a)
    ∧ (r.state = .suspended → f r.causes ≠ r.causes →
        (f r.causes ≠ .empty → a.leaveCause c f = { a with search := { r with causes := f r.causes } })
        ∧ (f r.causes = .empty → r.from_ = .peaked → a.leaveCause c f = { a with search := { r with
            state := .peaked, timer := none, ring := [], causes := .empty } })
        ∧ (f r.causes = .empty → r.from_ = .probing → a.leaveCause c f = ({ a with search := { r with
            state := .probing, timer := none, buffer := [], causes := .empty } } : Acting).returnCheck c)))
  ∧ ∀ (c : Ctx) (old : BitVec 7) (a : Acting),
    let had := hasDirection old .track
    let has := hasDirection c.sen.permit .track
    (had = true → has = false → a.searchSeesPermit c old = a.enterCause c fun k => { k with trackLost := true })
    ∧ (had = false → has = true → a.searchSeesPermit c old = a.leaveCause c fun k => { k with trackLost := false })
    ∧ (had = has → a.searchSeesPermit c old = a)

/-- O40. R112 to R120. Probes: with the centre within the soft limits, a clamped probe coordinate lies within W
of the centre and within the soft limits, and one that lies within both is kept; a probe moves the axis of
the turn alone; one that would move nothing is blocked, handed to the failure step and not counted; another
is counted, fails the search past the probe limit, and claims pan and tilt. The failure step takes direction,
turn and round through their table, telling whether the search goes on to a next probe or returns to the best
position, where it compares the best level with F. Measurement: an RX_LEVEL value counts in PROBING, but for a
RETURN, and in PEAKED while pan and tilt are AT_GOAL; N of them give their mean; a base measurement becomes the
best level; a probe's is accepted when it is at least T above the best level, and either way enters the
history of eight. A full ring whose mean has fallen more than R below the peak level starts a re-search; that the
ring is emptied with it is the model's reading (log 47). An
RX_LEVEL value ends the cause LEVEL_STALE of a suspended search; that it is not itself kept is the model's
reading (log 20). -/
def Obligations.ProbesKeepTheirBounds : Prop :=
  (∀ (m : MotionRecord) (window centre v : Int), 0 ≤ window → m.softMin ≤ centre → centre ≤ m.softMax →
    let g := clampProbe m window centre v
    centre - window ≤ g ∧ g ≤ centre + window ∧ m.softMin ≤ g ∧ g ≤ m.softMax
      ∧ (centre - window ≤ v → v ≤ centre + window → m.softMin ≤ v → v ≤ m.softMax → g = v))
  ∧ (∀ (t : Tables) (s : SearchRun) (centre best : PanTilt), s.centre = some centre → s.best = some best →
    let d : Int := if s.positive then s.step else -(s.step : Int)
    s.probeAim t = match s.turn with
      | .pan => { best with pan := clampProbe t.motion.pan t.search.window centre.pan (best.pan + d) }
      | .tilt => { best with tilt := clampProbe t.motion.tilt t.search.window centre.tilt (best.tilt + d) })
  ∧ (∀ (r : SearchRecord) (s : SearchRun),
    let n := if s.gain then 0 else s.noGain + 1
    (s.failed = 0 → s.failStep r = ({ s with failed := 1, positive := !s.positive }, true))
    ∧ (s.failed ≠ 0 → n < 2 → s.failStep r =
        ({ s with noGain := n, turn := s.turn.other, positive := true, failed := 0, gain := false }, true))
    ∧ (s.failed ≠ 0 → 2 ≤ n → r.smin < s.step → s.failStep r =
        ({ s with
            noGain := 0, step := max r.smin (s.step / 2), turn := .pan, positive := true, failed := 0, gain := false },
          true))
    ∧ (s.failed ≠ 0 → 2 ≤ n → s.step ≤ r.smin → s.failStep r = ({ s with noGain := n, failed := 0 }, false)))
  -- the next probe (R114, R115) and the return (R117)
  ∧ (∀ (c : Ctx) (a : Acting) (best : PanTilt), a.search.best = some best →
    let aim := a.search.probeAim c.tab
    let failed := a.search.failStep c.tab.search
    (aim ≠ best → a.nextProbe c = a.makeProbe c aim)
    ∧ (aim = best → failed.2 = true → a.nextProbe c = ({ a with search := failed.1 } : Acting).nextProbe c)
    ∧ (aim = best → failed.2 = false → a.nextProbe c = ({ a with search := failed.1 } : Acting).goBack c)
    ∧ (let b := a.claim c .search best.goals
      a.goBack c = ({ b with search := { b.search with purpose := .returning } } : Acting).returnCheck c))
  ∧ (∀ (c : Ctx) (a : Acting) (g : PanTilt),
    let counted : SearchRun := { a.search with count := a.search.count + 1 }
    (c.tab.search.maxProbes < a.search.count + 1 →
      a.makeProbe c g = ({ a with search := counted } : Acting).failSearch c .probeLimit)
    ∧ (a.search.count + 1 ≤ c.tab.search.maxProbes →
      a.makeProbe c g = { ({ a with search := counted } : Acting).claim c .search g.goals with
        search := { counted with probeGoal := some g, purpose := .probe, buffer := [] } }))
  ∧ (∀ (c : Ctx) (a : Acting),
    let back := a.search.state = .probing ∧ a.search.purpose = .returning ∧ a.axes.pan.state = .atGoal
      ∧ a.axes.tilt.state = .atGoal ∧ a.axes.pan.owner = .search ∧ a.axes.tilt.owner = .search
    (¬back → a.returnCheck c = a)
    ∧ ∀ l, back → a.search.bestLevel = some l →
      (c.tab.search.floor ≤ l → a.returnCheck c = { a with search := { a.search with
          state := .peaked, peak := some l, ring := [] } })
      ∧ (l < c.tab.search.floor → a.returnCheck c = a.failSearch c .noSignal))
  -- a value of RX_LEVEL (R112, R119, R121)
  ∧ (∀ (c : Ctx) (v : Int) (a : Acting),
    let r := a.search
    let still := a.axes.pan.state = .atGoal ∧ a.axes.tilt.state = .atGoal
    let n := c.tab.search.samples
    let ring := (r.ring ++ [v]).drop (r.ring.length + 1 - n)
    (r.state = .idle ∨ r.state = .failed → a.searchLevel c v = a)
    ∧ (r.state = .suspended → a.searchLevel c v = a.leaveCause c fun k => { k with levelStale := false })
    ∧ (r.state = .probing → r.purpose = .returning ∨ ¬still → a.searchLevel c v = a)
    ∧ (r.state = .probing → r.purpose ≠ .returning → still →
        (r.buffer.length + 1 < n → a.searchLevel c v = { a with search := { r with buffer := r.buffer ++ [v] } })
        ∧ (n ≤ r.buffer.length + 1 → a.searchLevel c v = a.measured c (meanLevel (r.buffer ++ [v]))))
    ∧ (r.state = .peaked → ¬still → a.searchLevel c v = a)
    ∧ (r.state = .peaked → still → ∀ peak, r.peak = some peak →
        let b : Acting := { a with search := { r with ring := ring } }
        (ring.length = n → meanLevel ring < peak - c.tab.search.repeakDrop →
          a.searchLevel c v = b.drift c (meanLevel ring))
        ∧ (ring.length ≠ n ∨ peak - c.tab.search.repeakDrop ≤ meanLevel ring → a.searchLevel c v = b)))
  -- what a measurement does (R113, R116, R118, R120)
  ∧ (∀ vs : List Int, meanLevel vs = (vs.sum + ((vs.length / 2 : Nat) : Int)).tdiv vs.length)
  ∧ (∀ (c : Ctx) (m : Int) (a : Acting),
    (a.search.purpose = .base → a.measured c m =
      ({ a with search := { a.search with buffer := [], bestLevel := some m } } : Acting).nextProbe c)
    ∧ ∀ goal l, a.search.purpose = .probe → a.search.probeGoal = some goal → a.search.bestLevel = some l →
      let entry := fun accepted : Bool => (⟨goal, m, accepted, a.search.step⟩ : ProbeEntry)
      let kept := fun accepted : Bool => (a.search.history ++ [entry accepted]).drop (a.search.history.length + 1 - 8)
      let failed := ({ a.search with buffer := [], history := kept false } : SearchRun).failStep c.tab.search
      (l + c.tab.search.improve ≤ m → a.measured c m = ({ a with search := { a.search with
          buffer := [], history := kept true, best := some goal, bestLevel := some m, failed := 0, gain := true } } :
          Acting).nextProbe c)
      ∧ (m < l + c.tab.search.improve →
          (failed.2 = true → a.measured c m = ({ a with search := failed.1 } : Acting).nextProbe c)
          ∧ (failed.2 = false → a.measured c m = ({ a with search := failed.1 } : Acting).goBack c)))
  ∧ ∀ (c : Ctx) (m : Int) (a : Acting),
    a.drift c m = ({ a with search := { a.search with
      repeaks := if a.search.repeaks < 255 then a.search.repeaks + 1 else a.search.repeaks
      state := .probing, step := min c.tab.search.s0 (4 * c.tab.search.smin), bestLevel := some m, count := 0
      turn := .pan, positive := true, failed := 0, noGain := 0, gain := false, ring := [] } } : Acting).nextProbe c

/-! ### The sequencer -/

/-- O41. STOW: refused with its result and nothing changed in UNCONFIGURED, while a STOW runs, and when a claim
check fails; otherwise it starts: all three axes are SAFETY's, tilt at its stow position, pan and mast at their
keep goals until their phases; a running search is aborted (O39), a running LOWER ends ABORTED and releases
nothing (R129, O42), and the phase timer runs. With axes already stowed the first phases are over at once, and
with all three the STOW is DONE. Of a running STOW the phase axis that enters AT_GOAL as SAFETY's completes its
phase, and nothing else does: the next phase restarts the phase timer and claims its axis for its stow position,
and is itself complete when that axis stands AT_GOAL; after STOW_MAST the STOW ends DONE; a refused phase claim
ends it FAILED with DRIVE_NOT_READY (R130, R132); that the phase ended in is the one just entered is the model's
reading (log 22). -/
def Obligations.StowStartsAsStated : Prop :=
  (∀ (s : State) (h : Header), s.part.consumes h .stow [] →
    let e := s.entered h
    let c := e.ctx
    let clamp := fun x g => max (c.tab.motion.get x).softMin (min (c.tab.motion.get x).softMax g)
    let stow := fun x => clamp x (c.tab.guard.get x).stowPos
    let keep := fun x => clamp x ((s.part.act.axes.get x).goal.getD (c.pos x))
    let phase := s.part.act.firstPhase c
    (s.part.sen.mode = .unconfigured →
      exec (.stow h []) s = .next (s.answered h .stow .notStarted e))
    ∧ (s.part.sen.mode = .operating → s.part.act.seq.state.stowing = true →
      exec (.stow h []) s = .next (s.answered h .stow .noChange e))
    ∧ (s.part.sen.mode = .operating → s.part.act.seq.state.stowing = false →
      (∀ r, claimChecks c .safety (fun _ => true) s.part.act = some r →
        exec (.stow h []) s = .next (s.answered h .stow r e))
      ∧ (claimChecks c .safety (fun _ => true) s.part.act = none →
        ∃ a : Acting, exec (.stow h []) s = .next (s.answered h .stow .done { e with act := a })
          ∧ a = e.act.startStow c
          ∧ a.seq.state = phase ∧ a.search.state.running = false
          ∧ (phase ≠ .idle → a.seq.timer = some (c.tab.pointing.phaseTimeout * 1000000)
              ∧ ∀ x, (a.axes.get x).owner = .safety)
          ∧ (phase = .idle → a.seq.timer = none ∧ a.seq.lastName = .stow ∧ a.seq.lastOutcome = .done
              ∧ ∀ x, (a.axes.get x).owner = .none)
          ∧ a.axes.tilt.goal = some (stow .tilt)
          ∧ a.axes.pan.goal = some (if phase = .stowTilt then keep .pan else stow .pan)
          ∧ a.axes.mast.goal = some (if phase = .stowTilt ∨ phase = .stowPan then keep .mast else stow .mast)
          ∧ (∀ x, (a.axes.get x).vPrev = (s.part.act.axes.get x).vPrev)
          ∧ a.out.driveQueue = s.part.act.out.driveQueue)))
  ∧ (∀ (c : Ctx) (a : Acting),
    let keep := fun x => (a.axes.get x).goal.getD (c.pos x)
    let claimed := a.claim c .safety fun
      | .mast => some (keep .mast)
      | .pan => some (keep .pan)
      | .tilt => some c.tab.guard.tilt.stowPos
    let aborted := claimed.abortSearch c
    let alone := if aborted.seq.state = .lowering then aborted.endSequence c .aborted .none .pass else aborted
    let b : Acting := { alone with seq := { alone.seq with
      state := .stowTilt, timer := some (c.tab.pointing.phaseTimeout * 1000000) } }
    (b.axes.tilt.state = .atGoal → a.startStow c = b.enterStowPan c)
    ∧ (b.axes.tilt.state ≠ .atGoal → a.startStow c = b))
  ∧ (∀ (c : Ctx) (old : PerAxis AxisRun) (a : Acting),
    let arrives := fun x => (old.get x).state ≠ .atGoal ∧ (a.axes.get x).state = .atGoal ∧ (a.axes.get x).owner = .safety
    (a.seq.state = .stowTilt → (arrives .tilt → a.sequencerSeesAxes c old = a.enterStowPan c)
        ∧ (¬arrives .tilt → a.sequencerSeesAxes c old = a))
    ∧ (a.seq.state = .stowPan → (arrives .pan → a.sequencerSeesAxes c old = a.enterStowMast c)
        ∧ (¬arrives .pan → a.sequencerSeesAxes c old = a))
    ∧ (a.seq.state = .stowMast → (arrives .mast → a.sequencerSeesAxes c old = a.endSequence c .done .none .release)
        ∧ (¬arrives .mast → a.sequencerSeesAxes c old = a))
    ∧ (a.seq.state = .idle → a.sequencerSeesAxes c old = a))
  ∧ ∀ (c : Ctx) (a : Acting),
    let entered := fun st : SequenceState =>
      ({ a with seq := { a.seq with state := st, timer := some (c.tab.pointing.phaseTimeout * 1000000) } } : Acting)
    let toStow := fun (x : Axis) (b : Acting) =>
      b.claim c .safety fun y => if y = x then some (c.tab.guard.get x).stowPos else none
    (claimCheck c .safety .pan a.axes.pan ≠ none →
      a.enterStowPan c = (entered .stowPan).endSequence c .failed .driveNotReady .release)
    ∧ (claimCheck c .safety .pan a.axes.pan = none →
      let b := toStow .pan (entered .stowPan)
      (b.axes.pan.state = .atGoal → a.enterStowPan c = b.enterStowMast c)
      ∧ (b.axes.pan.state ≠ .atGoal → a.enterStowPan c = b))
    ∧ (claimCheck c .safety .mast a.axes.mast ≠ none →
      a.enterStowMast c = (entered .stowMast).endSequence c .failed .driveNotReady .release)
    ∧ (claimCheck c .safety .mast a.axes.mast = none →
      let b := toStow .mast (entered .stowMast)
      (b.axes.mast.state = .atGoal → a.enterStowMast c = b.endSequence c .done .none .release)
      ∧ (b.axes.mast.state ≠ .atGoal → a.enterStowMast c = b))

/-- O42. PHASE_TIMER_EXPIRY of a running sequence ends it FAILED with PHASE_TIMEOUT and stops every axis it
owned; another axis is unchanged, but that a suspended search which the end of a LOWER lets go on may fail
and release its own (R117, R137). With no sequence running the expiry has no effect (log 3). An ending leaves
the sequencer IDLE with its timer stopped, then parts with its axes, hands the end of a LOWER to the search,
records itself and raises SEQUENCE_END (R137, R139). A LOWER starts when the SAFETY claim on the mast passes:
the mast goes to the safe height, the phase timer starts and the search has a cause of suspension; it ends DONE
when the mast stands or enters AT_GOAL (R136, R137); a refused one raises SEQUENCE_END with REFUSED, the code of
whose last word is the model's reading (log 43), and so is which axes a sequence owns (log 35). -/
def Obligations.PhaseTimeoutStopsAxes : Prop :=
  (∀ s : State, s.part.sen.held = false →
    (s.part.act.seq.state ≠ .idle → s.part.act.seq.timer.isSome = true →
      ∃ a : Acting, exec .phaseTimerExpiry s = .next (s.settled { s.part with act := a })
        ∧ a = s.part.act.endSequence s.part.ctx .failed .phaseTimeout .stop
        ∧ a.seq = { state := .idle, lastName := s.part.act.seq.state.sequence, lastOutcome := .failed,
                    lastReason := .phaseTimeout, timer := none }
        ∧ (∀ x, (s.part.act.axes.get x).owner = .safety →
            a.axes.get x = (s.part.act.axes.get x).stoppedBy)
        ∧ (∀ x, (s.part.act.axes.get x).owner ≠ .safety →
            a.axes.get x = s.part.act.axes.get x
            ∨ (s.part.act.seq.state = .lowering ∧ s.part.act.search.state = .suspended
                ∧ a.axes.get x = (s.part.act.axes.get x).released))
        ∧ a.out.driveQueue = s.part.act.out.driveQueue)
    ∧ (s.part.act.seq.timer = none → exec .phaseTimerExpiry s = .next (s.settled s.part)))
  ∧ (∀ (c : Ctx) (outcome : Ending) (reason : SequenceReason) (how : Parting) (a : Acting),
    let was := a.seq.state
    let idle : Acting := { a with seq := { a.seq with state := .idle, timer := none } }
    ∃ b : Acting, b.search = a.search
      ∧ b.seq = { a.seq with state := .idle, timer := none } ∧ b.out.driveQueue = a.out.driveQueue
      ∧ b = (match how with
        | .release => idle.release c .safety
        | .stop => idle.shift c (fun _ => none) fun _ r => if r.owner = .safety then r.stoppedBy else r
        | .pass => idle)
      ∧ (∀ x, b.axes.get x =
          if (a.axes.get x).owner = .safety then
            match how with
            | .release => (a.axes.get x).released
            | .stop => (a.axes.get x).stoppedBy
            | .pass => a.axes.get x
          else a.axes.get x)
      ∧ (let d := if was = .lowering then b.leaveCause c (fun k => { k with lowerRunning := false }) else b
        a.endSequence c outcome reason how =
          ({ d with seq := { b.seq with lastName := was.sequence, lastOutcome := outcome, lastReason := reason } } :
            Acting).raise c .sequenceEnd [BitVec.ofInt 16 (sequenceNameCode was.sequence),
              BitVec.ofInt 16 (endingCode outcome), BitVec.ofInt 16 (sequenceReasonCode reason),
              BitVec.ofInt 16 (sequenceStateCode was)]))
  ∧ (∀ (c : Ctx) (a : Acting),
    (∀ refusal, claimCheck c .safety .mast a.axes.mast = some refusal →
      a.lowerAction c = (a.raise c .sequenceEnd [2, 4, BitVec.ofInt 16 (resultCode refusal), 0], false))
    ∧ (claimCheck c .safety .mast a.axes.mast = none → a.lowerAction c = (a.startLower c, true))
    ∧ (let claimed := a.claim c .safety fun x => if x = .mast then some c.tab.pointing.safeHeight else none
      let b := ({ claimed with seq := { claimed.seq with
        state := .lowering, timer := some (c.tab.pointing.phaseTimeout * 1000000) } } : Acting).enterCause c
          fun k => { k with lowerRunning := true }
      (b.axes.mast.state = .atGoal → a.startLower c = b.endSequence c .done .none .release)
      ∧ (b.axes.mast.state ≠ .atGoal → a.startLower c = b)))
  ∧ ∀ (c : Ctx) (old : PerAxis AxisRun) (a : Acting), a.seq.state = .lowering →
    let arrives := old.mast.state ≠ .atGoal ∧ a.axes.mast.state = .atGoal ∧ a.axes.mast.owner = .safety
    (arrives → a.sequencerSeesAxes c old = a.endSequence c .done .none .release)
    ∧ (¬arrives → a.sequencerSeesAxes c old = a)

/-! ### The link -/

/-- O43. R144: the words of every frame the part sends sum to 0xFFFF, modulo 65536, the check word included, and
so do the words of every frame it accepts; the zero fields are zero; the frames it originates carry the own
number as source and the destination and priority of their kind; a forwarded or mirrored frame keeps all but its
priority. -/
def Obligations.CheckWordAsStated : Prop :=
  (∀ ws : List Word, checkWord ws = ~~~(ws.foldl (· + ·) 0))
  ∧ (∀ f : Frame, ∃ body : List Word, wireWords f = body ++ [checkWord body]
      ∧ (wireWords f).foldl (· + ·) 0 = 0xFFFF
      ∧ (headerWord0 f).toNat % 8 = 0 ∧ (headerWord1 f).toNat % 16 = 0)
  ∧ (∀ (framing : Bool) (ws : List Word) (f : Frame), readWords framing ws = some f →
      ws.foldl (· + ·) 0 = 0xFFFF)
  ∧ (∀ (t : Tables) (n : Node) (k : Kind) (r : Result) (ws : List Word),
      (replyFrame t n k r ws).src = t.own ∧ (replyFrame t n k r ws).dst = n ∧ (replyFrame t n k r ws).prio = 7
        ∧ (replyFrame t n k r ws).kind = .reply)
  ∧ (∀ (t : Tables) (k : EventKind) (ws : List Word),
      (eventFrame t k ws).src = t.own ∧ (eventFrame t k ws).dst = 31 ∧ (eventFrame t k ws).prio = 7
        ∧ (eventFrame t k ws).kind = .event)
  ∧ (∀ (t : Tables) (ws : List Word),
      (statusFrame t ws).src = t.own ∧ (statusFrame t ws).dst = 31 ∧ (statusFrame t ws).prio = 3
        ∧ (statusFrame t ws).kind = .status)
  ∧ (∀ (t : Tables) (x : Axis) (v : Int),
      (demandFrame t x v).src = t.own ∧ (demandFrame t x v).dst = (t.guard.get x).drive
        ∧ (demandFrame t x v).prio = 6 ∧ (demandFrame t x v).kind = .demand)
  ∧ ∀ (t : Tables) (f : Frame),
      (t.rewrite f).src = f.src ∧ (t.rewrite f).dst = f.dst ∧ (t.rewrite f).kind = f.kind
        ∧ (t.rewrite f).payload = f.payload ∧ (t.rewrite f).prio.val = min f.prio.val (t.node f.src).cap

/-- O44. R143 to R145: the words of a frame with at most fourteen payload words, received with every stop bit,
read back as the frame; and with a stop bit missing they are no frame. -/
def Obligations.FramesReadBackFromWords : Prop :=
  ∀ f : Frame, f.payload.length ≤ 14 →
    readWords true (wireWords f) = some f ∧ readWords false (wireWords f) = none

/-! ### Admission -/

/-- O45. R160, R161: at its expiry the refill timer starts again, and every present node's meter has its rate
times 10 added, capped at its burst times 1000; all else is as it was. An admitted frame spends 1000 from
its source's meter and from no other. That the expiry acts whatever time the timer still shows is the model's
choice (log 3). -/
def Obligations.MetersRefillAndSpend : Prop :=
  (∀ s : State, s.part.sen.held = false → s.part.sen.refillTimer.isSome = true →
    ∃ meters : Vector Nat 32,
      exec .refillTimerExpiry s = .next (s.settled { s.part with sen := { s.part.sen with
        refillTimer := some 10000, meters := meters } })
      ∧ ∀ n : Fin 32, meters[n] =
          let e := s.part.tab.node n
          if e.present then min (s.part.sen.meters[n] + e.rate * 10) (e.burst * 1000) else s.part.sen.meters[n])
  ∧ ∀ (s : State) (h : Header) (n : Fin 32),
      (s.entered h).sen.meters[n] =
        if n = h.src then s.part.sen.meters[n] - 1000 else s.part.sen.meters[n]

/-- O46. R145, R158, R159, R164, R166: the checks of an arrival, in their order. An arrival that fails one is
counted as received and under its reason, on its port, and fills the first empty drop record; it changes no
table, nothing that the part senses, no axis, search, sequence or pointing, and no other counter, queue or
transmission but by the event DROP_RECORDED, which is raised when the first record was empty, and which finds no
place in a full port C queue but at the cost of one drop there. An arrival that passes them for a destination
that is not present is dropped in the same way as UNKNOWN_DEST, after its tokens are spent (R162). So it is with
every frame row of the table, whose frame arrives as any other (model's reading, logs 6 and 7). A SAMPLE carries
pairs whose ids are neither 11 nor above 23. Words that are no frame are dropped as BAD_FORM with the source and
kind as received; that an arrival without words has source 0 is the model's choice (log 30). -/
def Obligations.DroppedFrameOnlyCounts : Prop :=
  (∀ (s : State) (c : Instr) (port : Port) (d : DropRecord), s.part.sen.held = false →
    ((∃ framing words, c = .frameDropped port framing words ∧ readWords framing words = none
        ∧ d = { reason := .badForm, port := port, source := receivedSource words, kind := receivedKind words })
      ∨ ∃ f, c.arrival = some (port, f)
        ∧ ((s.part.received port).arrivalCheck port f = some d.reason
          ∨ ((s.part.received port).arrivalCheck port f = none ∧ s.part.tab.bound port f.dst = .nowhere
            ∧ d.reason = .unknownDest))
        ∧ d.port = port ∧ d.source = f.src ∧ d.kind = kindCode f.kind) →
    let p := c.seenBy s.part
    let sen := if d.reason = .unknownDest then p.sen.spend d.source else p.sen
    let old := s.part.act.out
    let q : Part := { p with sen := sen, act := { s.part.act with out := old.countReceived port } }
    let event : CEntry := ⟨.own, .frame (eventFrame s.part.tab .dropRecorded (dropWords (some d)))⟩
    let raised := old.dropA = none ∧ s.part.tab.enabled .dropRecorded = true
    let full := raised ∧ 16 ≤ old.waitingC
    ∃ o : Output,
      exec c s = .next (s.settled { p with sen := sen, act := { s.part.act with out := o } })
      ∧ o = q.act.out.drop q.tab (statusWords q.ctx q.act) d
      ∧ o.dropA = old.dropA.or (some d)
      ∧ (old.dropA.isSome = true → o.dropB = old.dropB.or (some d))
      ∧ (old.dropA = none → ¬full → o.dropB = old.dropB)
      ∧ (∀ k, (o.counters.get k).received =
          if k = port then bumpTo 65535 (old.counters.get k).received else (old.counters.get k).received)
      ∧ (∀ k, (o.counters.get k).sent = (old.counters.get k).sent)
      ∧ (∀ k r, (o.counters.get k).of r =
          if (k = port ∧ r = d.reason) ∨ (k = .c ∧ r = .queueFull ∧ full) then bumpTo 65535 ((old.counters.get k).of r)
          else (old.counters.get k).of r)
      ∧ (¬raised → o.urgent = old.urgent ∧ o.routine = old.routine ∧ o.tx = old.tx)
      ∧ (raised → old.tx.c.isSome = true → old.waitingC < 16 →
          o.urgent = old.urgent ++ [event] ∧ o.routine = old.routine ∧ o.tx = old.tx)
      ∧ (old.dropA.isSome = true → o.seen = old.seen)
      ∧ (old.dropA = none → old.urgent.countP CEntry.isStatus = 0 → (o.seen &&& eventBit .dropRecorded) ≠ 0)
      ∧ o.tx.s = old.tx.s ∧ o.tx.d = old.tx.d
      ∧ o.driveQueue = old.driveQueue ∧ o.sensorQueue = old.sensorQueue ∧ o.statusTimer = old.statusTimer)
  ∧ (∀ (p : Part) (port : Port) (f : Frame), p.arrivalCheck port f =
    if formOk p.tab.own f = false then some .badForm
    else if (p.tab.ports.get port).state = .closed then some .portClosed
    else if (p.tab.node f.src).present = false then some .unknownSource
    else if (p.tab.node f.src).port ≠ port then some .wrongPort
    else if kindAllowed (p.tab.node f.src) f.kind (p.tab.bound port f.dst) = false then some .kindNotAllowed
    else if p.sen.meters[f.src] < 1000 then some .overRate
    else none)
  ∧ (∀ (own : Node) (f : Frame), formOk own f = true ↔
    f.payload.length ≤ 14 ∧ f.src.val ≠ 31 ∧ f.src ≠ own
      ∧ (f.kind = .sample → f.payload ≠ [] ∧ samplePairsOk f.payload = true)
      ∧ (f.kind = .driveStatus → ∃ st cause, f.payload = [st, cause] ∧ 0 ≤ st.toInt ∧ st.toInt ≤ 2)
      ∧ (f.kind = .demand → f.payload.length = 1))
  ∧ (samplePairsOk [] = true ∧ (∀ w, samplePairsOk [w] = false)
    ∧ ∀ id v rest, samplePairsOk (id :: v :: rest) = true ↔
      0 ≤ id.toInt ∧ id.toInt ≤ 23 ∧ id.toInt ≠ 11 ∧ samplePairsOk rest = true)
  ∧ (receivedSource [] = 0 ∧ receivedKind [] = 0
    ∧ (∀ (w : Word) (rest : List Word), (receivedSource (w :: rest)).val = w.toNat / 64 % 32 ∧ receivedKind [w] = 0)
    ∧ ∀ (w v : Word) (rest : List Word), receivedKind (w :: v :: rest) = v.toNat / 256)
  -- one drop (R164, R166)
  ∧ (∀ (t : Tables) (v : List Word) (d : DropRecord) (o : Output),
    let counted := o.counters.set d.port ((o.counters.get d.port).bump d.reason)
    let event : CEntry := ⟨.own, .frame (eventFrame t .dropRecorded (dropWords (some d)))⟩
    let seen : Output := { o with counters := counted, dropA := some d, seen := o.seen ||| eventBit .dropRecorded }
    let new := o.drop t v d
    let lose := fun (lost : CEntry) (n : Output) =>
      let e := lost.dropAs t .queueFull
      ({ n with counters := n.counters.set .c (n.counters.c.bump .queueFull), dropB := o.dropB.or (some e) } : Output)
    (o.dropA.isSome = true → new = { o with counters := counted, dropB := o.dropB.or (some d) })
    ∧ (o.dropA = none →
      (t.enabled .dropRecorded = false → new = seen)
      ∧ (t.enabled .dropRecorded = true →
        (o.waitingC < 16 → new = seen.placeC t v true event)
        ∧ (16 ≤ o.waitingC → o.tx.c.isSome = true → o.routine = [] → new = lose event seen)
        ∧ (16 ≤ o.waitingC → o.tx.c.isSome = true → ∀ older newest, o.routine = older ++ [newest] →
            new = lose newest { seen with urgent := o.urgent ++ [event], routine := older }))))
  ∧ (∀ (k : Counters) (reason : DropReason),
    (k.bump reason).received = k.received ∧ (k.bump reason).sent = k.sent
    ∧ ∀ r, (k.bump reason).of r = if r = reason then bumpTo 65535 (k.of r) else k.of r)
  ∧ (∀ (t : Tables) (port : Port) (dst : Node),
    let there := t.node dst
    (dst.val = 31 ∨ dst = t.own → t.bound port dst = .part)
    ∧ (dst.val ≠ 31 → dst ≠ t.own →
        (there.present = false → t.bound port dst = .nowhere)
        ∧ (there.present = true → there.port = port → t.bound port dst = .local)
        ∧ (there.present = true → there.port ≠ port → t.bound port dst = .far there)))
  ∧ (∀ (src : NodeEntry) (k : Kind),
    let console := src.role = .maint ∨ src.role = .console
    (kindAllowed src k .part = true ↔ k ∈ src.role.kinds)
    ∧ kindAllowed src k .local = true
    ∧ (∀ dst : NodeEntry, kindAllowed src k (.far dst) = true ↔
        (k = .demand ∧ console ∧ dst.role = .drive)
        ∨ (k = .nodeData ∧ ((src.role = .maint ∧ dst.port ≠ .c)
          ∨ ((src.role = .sensor ∨ src.role = .drive) ∧ dst.port = .c))))
    ∧ (kindAllowed src k .nowhere = true ↔ k ∈ src.role.kinds ∨ (k = .demand ∧ console)
        ∨ (k = .nodeData ∧ (src.role = .maint ∨ src.role = .sensor ∨ src.role = .drive))))
  ∧ ∀ k : Kind,
    (k ∈ Role.sensor.kinds ↔ k = .sample) ∧ (k ∈ Role.drive.kinds ↔ k = .driveStatus)
    ∧ (k ∈ Role.observer.kinds ↔ k = .readStatus ∨ k = .tableRead)
    ∧ (k ∈ Role.maint.kinds ↔ 0x10 ≤ kindCode k ∧ kindCode k ≤ 0x29)
    ∧ (k ∈ Role.console.kinds ↔ k ∈ Role.maint.kinds ∧ k ≠ .reset ∧ k ≠ .tableWrite ∧ k ≠ .bankSwap ∧ k ≠ .linesSet)

/-- O47. R162, R175: traffic between two nodes of one segment is counted and metered, and nothing is done with
it. NODE_DATA for a node on another port is dropped as PORT_CLOSED at a LISTEN port or for a port that is not
OPEN; otherwise it is placed, with its priority rewritten, at the back of the queue of the destination's port S
or D, in transmission at once when that port is idle and nothing waits, and dropped as QUEUE_FULL when four, or
five of NODE_DATA, wait; into port C it is placed as any frame there (O48), in the class that the mask gives it.
A consumed SAMPLE or DRIVE_STATUS of a node whose entry has mirror yes, that came by another port than C, is
copied with its priority rewritten into the port C queue while port C is OPEN, and otherwise not; that the copy
is placed after the frame has been taken is the model's choice (log 19). -/
def Obligations.FramesIgnoredAndForwarded : Prop :=
  (∀ (s : State) (h : Header) (k : Kind) (ws : List Word), s.part.sen.held = false →
    s.part.admits h.port (frameOf h k ws) → s.part.tab.bound h.port h.dst = .local →
    exec (.frameIgnored h k ws) s = .next (s.settled (s.entered h)))
  ∧ (∀ (s : State) (h : Header) (ws : List Word) (e : NodeEntry), s.part.sen.held = false →
    s.part.admits h.port (frameOf h .nodeData ws) → s.part.tab.bound h.port h.dst = .far e →
    kindAllowed (s.part.tab.node h.src) .nodeData (.far e) = true →
    let p := s.entered h
    let f := frameOf h .nodeData ws
    let f' := s.part.tab.rewrite f
    let closed := (s.part.tab.ports.get h.port).state = .listen ∨ (s.part.tab.ports.get e.port).state ≠ .opened
    let busy := (s.part.act.out.tx.get e.port).isSome = true
    (closed → exec (.nodeDataForward h ws) s = .next (s.settled (p.drop (dropOf .portClosed h.port f))))
    ∧ (¬closed → ∃ o : Output,
        exec (.nodeDataForward h ws) s = .next (s.settled { p with act := { p.act with out := o } })
        ∧ (e.port = .c → o = p.act.out.placeC p.tab (statusWords p.ctx p.act) (p.tab.urgentByMask f')
            ⟨.forwarded, .frame f'⟩)
        ∧ (e.port = .s → s.part.act.out.sensorQueue.length < 4 →
            (busy → o = { p.act.out with sensorQueue := p.act.out.sensorQueue ++ [f'] })
            ∧ (¬busy → s.part.act.out.sensorQueue = [] →
              o = { p.act.out with tx := { p.act.out.tx with s := some ⟨f', frameTime f'⟩ } }))
        ∧ (e.port = .d → s.part.act.out.driveQueue.countP DEntry.isData < 5 →
            (busy → o = { p.act.out with driveQueue := p.act.out.driveQueue ++ [.data f'] })
            ∧ (¬busy → s.part.act.out.driveQueue = [] →
              o = { p.act.out with tx := { p.act.out.tx with d := some ⟨f', frameTime f'⟩ } }))
        ∧ ((e.port = .s ∧ 4 ≤ s.part.act.out.sensorQueue.length)
            ∨ (e.port = .d ∧ 5 ≤ s.part.act.out.driveQueue.countP DEntry.isData) →
            o = p.act.out.drop p.tab (statusWords p.ctx p.act) (dropOf .queueFull e.port f')
              ∧ o.sensorQueue = s.part.act.out.sensorQueue ∧ o.driveQueue = s.part.act.out.driveQueue
              ∧ o.dropA = s.part.act.out.dropA.or (some (dropOf .queueFull e.port f')))
        ∧ (e.port = .c → busy → s.part.act.out.waitingC < 16 →
            (s.part.tab.urgentByMask f' = true → o.urgent = s.part.act.out.urgent ++ [⟨.forwarded, .frame f'⟩]
              ∧ o.routine = s.part.act.out.routine)
            ∧ (s.part.tab.urgentByMask f' = false → o.urgent = s.part.act.out.urgent
              ∧ o.routine = s.part.act.out.routine ++ [⟨.forwarded, .frame f'⟩]))))
  ∧ ∀ (s : State) (h : Header) (k : Kind) (c : Instr) (ws : List Word), s.part.consumes h k ws →
    ((k = .sample ∧ c = .sample h ws) ∨ (k = .driveStatus ∧ c = .driveStatus h ws)) →
    let f := frameOf h k ws
    let copy := s.part.tab.rewrite f
    let q := (s.entered h).take f
    let mirrored := (s.part.tab.node h.src).mirror = true ∧ h.port ≠ .c ∧ s.part.tab.ports.c.state = .opened
    (¬mirrored → exec c s = .next (s.settled q))
    ∧ (mirrored → exec c s = .next (s.settled { q with act := { q.act with
        out := q.act.out.placeC q.tab (statusWords q.ctx q.act) (q.tab.urgentByMask copy) ⟨.mirrored, .frame copy⟩ } }))

/-! ### Output queues -/

/-- O48. R148, R169, R171, R174, R176, R186: a DEMAND at a CLOSED port is dropped; at a busy one it replaces the
waiting DEMAND of its axis in place, or goes to the back; at an idle one with nothing waiting its transmission
begins. A frame is placed in the port C queue at the back of its class while fewer than sixteen wait; then an
URGENT frame displaces the newest ROUTINE one, and a frame that finds no place is dropped as QUEUE_FULL; at an
idle port C with nothing waiting its transmission begins. A REPLY, URGENT, carries the kind it answers in the
high byte and the result in the low byte of its first word, then its data; an event enters the events-seen set,
and where its kind is enabled is placed, URGENT, as an EVENT with the kind and the event's words. That the
displacing frame has its place before the displaced one is dropped is the model's reading (log 17). -/
def Obligations.PlacementsAsStated : Prop :=
  (∀ (t : Tables) (v : List Word) (x : Axis) (rate : Int) (o : Output),
    let f := demandFrame t x rate
    let new := o.sendDemand t v x rate
    (t.ports.d.state = .closed → new = o.drop t v (dropOf .portClosed .d f) ∧ new.driveQueue = o.driveQueue)
    ∧ (t.ports.d.state ≠ .closed →
        (o.tx.d.isSome = true → o.demandWaits x = true → new = { o with
            driveQueue := (o.driveQueue.map fun e => if e.isDemandOf x then .demand x f else e) })
        ∧ (o.tx.d.isSome = true → o.demandWaits x = false → new = { o with driveQueue := o.driveQueue ++ [.demand x f] })
        ∧ (o.tx.d = none → o.driveQueue = [] →
            new = { o with tx := { o.tx with d := some ⟨f, frameTime f⟩ } })))
  ∧ (∀ (t : Tables) (v : List Word) (urgent : Bool) (g : Origin) (f : Frame) (o : Output), o.tx.c = none →
    o.urgent = [] → o.routine = [] →
    o.placeC t v urgent ⟨g, .frame f⟩ = { o with tx := { o.tx with c := some ⟨f, frameTime f⟩ } })
  ∧ (∀ (n : Node) (k : Kind) (r : Result) (ws : List Word) (p : Part),
    (∃ w : Word, (replyFrame p.tab n k r ws).payload = w :: ws
      ∧ w.toNat / 256 = kindCode k ∧ w.toNat % 256 = resultCode r)
    ∧ (let o := p.act.out.placeC p.tab (statusWords p.ctx p.act) true ⟨.own, .frame (replyFrame p.tab n k r ws)⟩
      p.reply n k r ws = { p with act := { p.act with out := o } }))
  ∧ (∀ (c : Ctx) (k : EventKind) (ws : List Word) (a : Acting),
    let seen : Output := { a.out with seen := a.out.seen ||| eventBit k }
    let enabled := (c.tab.report.enables &&& eventBit k) ≠ 0
    (eventFrame c.tab k ws).payload = BitVec.ofNat 16 (eventCode k) :: ws
    ∧ (∀ j, (eventBit k).getLsbD j = decide (j + 1 = eventCode k))
    ∧ (¬enabled → a.raise c k ws = { a with out := seen })
    ∧ (let o := seen.placeC c.tab (statusWords c a) true ⟨.own, .frame (eventFrame c.tab k ws)⟩
      enabled → a.raise c k ws = { a with out := o }))
  ∧ ∀ (t : Tables) (v : List Word) (urgent : Bool) (e : CEntry) (o : Output), o.tx.c.isSome = true →
    let new := o.placeC t v urgent e
    (o.waitingC < 16 → urgent = true → new = { o with urgent := o.urgent ++ [e] })
    ∧ (o.waitingC < 16 → urgent = false → new = { o with routine := o.routine ++ [e] })
    ∧ (16 ≤ o.waitingC → urgent = false → new = o.drop t v (e.dropAs t .queueFull))
    ∧ (16 ≤ o.waitingC → urgent = true → o.routine = [] → new = o.drop t v (e.dropAs t .queueFull))
    ∧ (16 ≤ o.waitingC → urgent = true → ∀ older newest, o.routine = older ++ [newest] →
        new = ({ o with urgent := o.urgent ++ [e], routine := older } : Output).drop t v (newest.dropAs t .queueFull))

/-- O49. R170, R174: a completed transmission is counted as sent, and the port takes its next frame: on port C
the oldest URGENT frame, else the oldest ROUTINE one, on ports D and S the first waiting; with none waiting it
is idle. A STATUS takes its words, and empties the events-seen set, as its transmission begins (R172). The other
queues, transmissions and counters, the drop records and the status timer are as they were, and so is the
events-seen set but for a STATUS. An idle port completes nothing (log 3). -/
def Obligations.CompletionTakesNextFrame : Prop :=
  ∀ (s : State) (k : Port), s.part.sen.held = false →
    let o := s.part.act.out
    (o.tx.get k = none → exec (.transmissionComplete k) s = .next (s.settled s.part))
    ∧ ((o.tx.get k).isSome = true → ∃ new : Output,
      exec (.transmissionComplete k) s = .next (s.settled { s.part with act := { s.part.act with out := new } })
      ∧ (∀ j, new.counters.get j = if j = k then
          { o.counters.get j with sent := bumpTo 65535 (o.counters.get j).sent } else o.counters.get j)
      ∧ (let done : Output := { o with counters := new.counters }
        (k = .c →
          let begins := fun (e : CEntry) (n : Output) => match e.body with
            | .frame f => { n with tx := { n.tx with c := some ⟨f, frameTime f⟩ } }
            | .status =>
              let f := statusFrame s.part.tab ((statusWords s.part.ctx s.part.act).set 10 (o.seen.setWidth 16))
              { n with tx := { n.tx with c := some ⟨f, frameTime f⟩ }, seen := 0 }
          (∀ e rest, o.urgent = e :: rest → new = begins e { done with urgent := rest })
          ∧ (∀ e rest, o.urgent = [] → o.routine = e :: rest → new = begins e { done with routine := rest })
          ∧ (o.urgent = [] → o.routine = [] → new = { done with tx := { o.tx with c := none } }))
        ∧ (k = .d →
          (∀ e rest, o.driveQueue = e :: rest → new = { done with
            driveQueue := rest, tx := { o.tx with d := some ⟨e.frame, frameTime e.frame⟩ } })
          ∧ (o.driveQueue = [] → new = { done with tx := { o.tx with d := none } }))
        ∧ (k = .s →
          (∀ f rest, o.sensorQueue = f :: rest → new = { done with
            sensorQueue := rest, tx := { o.tx with s := some ⟨f, frameTime f⟩ } })
          ∧ (o.sensorQueue = [] → new = { done with tx := { o.tx with s := none } }))))

/-- O50. R172, R185: READ_STATUS, and the status timer, which starts again with its period, request a STATUS:
with one waiting nothing is placed; with none, one is placed as any ROUTINE frame (O48): at the back of the
ROUTINE frames of a busy port with a place, dropped at a full one, and begins at once at an idle port with
nothing waiting, the events-seen set cleared with it. Its words are the twelve of R148: mode, active bank and
ESTOP; the permit set; LINES; the three positions, absent where not fresh (R16); the axis states; the owners;
search state and reason; the sequencer; the events-seen set, which is put in as the transmission begins; and the
peak level while PEAKED, the best level otherwise. That the expiry acts whatever time the timer still shows is
the model's choice (log 3). -/
def Obligations.StatusRequestPlacesOne : Prop :=
  (∀ (s : State) (h : Header), s.part.consumes h .readStatus [] →
    let e := s.entered h
    exec (.readStatus h []) s = .next (s.settled { e with act := e.act.requestStatus e.ctx }))
  ∧ (∀ s : State, s.part.sen.held = false → s.part.act.out.statusTimer.isSome = true →
    let a : Acting := { s.part.act with out := { s.part.act.out with
      statusTimer := some (s.part.tab.report.period * 10000) } }
    exec .statusTimerExpiry s = .next (s.settled { s.part with act := a.requestStatus s.part.ctx }))
  ∧ (∀ (c : Ctx) (a : Acting),
    let int := fun v : Int => (BitVec.ofInt 16 v : Word)
    let position := fun q : Fin 24 => int (if (c.sen.image[q]).state = .fresh then (c.sen.image[q]).value else -32768)
    let perAxis := fun code : AxisRun → Int =>
      int (code a.axes.mast + 16 * code a.axes.pan + 256 * code a.axes.tilt)
    statusWords c a =
      [ int ((if c.sen.mode = .operating then 1 else 0) + (if c.tab.active = .b then 2 else 0)
          + (if c.sen.estop = true then 4 else 0)),
        c.sen.permit.setWidth 16, int (c.sen.image[(11 : Fin 24)]).value, position 0, position 1, position 2,
        perAxis fun r => axisStateCode r.state, perAxis fun r => ownerCode r.owner,
        int (256 * searchStateCode a.search.state + failureReasonCode a.search.reason),
        int (sequenceStateCode a.seq.state + 16 * sequenceNameCode a.seq.lastName + 256 * endingCode a.seq.lastOutcome
          + 4096 * sequenceReasonCode a.seq.lastReason),
        0, int ((if a.search.state = .peaked then a.search.peak else a.search.bestLevel).getD (-32768)) ])
  ∧ ∀ (c : Ctx) (a : Acting),
    let waits := ∃ e ∈ a.out.routine, e.body = .status
    let f := statusFrame c.tab ((statusWords c a).set 10 (a.out.seen.setWidth 16))
    (waits → a.requestStatus c = a)
    ∧ (¬waits → a.requestStatus c = { a with
        out := a.out.placeC c.tab (statusWords c a) false ⟨.own, .status⟩ })
    ∧ (¬waits → a.out.tx.c.isSome = true → a.out.waitingC < 16 →
        a.requestStatus c = { a with out := { a.out with routine := a.out.routine ++ [⟨.own, .status⟩] } })
    ∧ (¬waits → a.out.tx.c = none → a.out.urgent = [] → a.out.routine = [] →
        a.requestStatus c = { a with out := { a.out with
          tx := { a.out.tx with c := some ⟨f, frameTime f⟩ }, seen := 0 } })

/-- O51. R165, R167: READ_COUNTERS replies with the ten counters of the port it names, its own arrival among
them, and sets them to 0, and BAD_VALUE for a word that names none; READ_DROPS replies with both records, an
empty one as four words of 0, and empties them. All else is as it was. -/
def Obligations.CountersAndDropsReadClear : Prop :=
  (∀ (s : State) (h : Header) (w : Word) (k : Port), s.part.consumes h .readCounters [w] → portOf w.toInt = some k →
    let e := s.entered h
    exec (.readCounters h [w]) s = .next (s.settled
      (Part.reply h.src .readCounters .done (e.act.out.counters.get k).words
        { e with act := { e.act with out := { e.act.out with counters := e.act.out.counters.set k Counters.zero } } })))
  ∧ (∀ (s : State) (h : Header) (w : Word), s.part.consumes h .readCounters [w] → w.toInt < 0 ∨ 2 < w.toInt →
    exec (.readCounters h [w]) s = .next (s.answered h .readCounters .badValue (s.entered h)))
  ∧ dropWords none = [0, 0, 0, 0]
  ∧ (∀ d : DropRecord, dropWords (some d) = [BitVec.ofInt 16 (dropReasonCode d.reason),
      BitVec.ofInt 16 (portCode d.port), BitVec.ofNat 16 d.source.val, BitVec.ofNat 16 d.kind])
  ∧ (∀ k : Counters, k.words = [k.received, k.sent, k.badForm, k.portClosed, k.unknownSource, k.wrongPort,
      k.kindNotAllowed, k.overRate, k.unknownDest, k.queueFull].map (BitVec.ofNat 16))
  ∧ ∀ (s : State) (h : Header), s.part.consumes h .readDrops [] →
    let e := s.entered h
    exec (.readDrops h []) s = .next (s.settled
      (Part.reply h.src .readDrops .done (dropWords e.act.out.dropA ++ dropWords e.act.out.dropB)
        { e with act := { e.act with out := { e.act.out with dropA := none, dropB := none } } }))

/-- O52. Writes of the tables that act on nothing else: NODE fills or discards the node's meter, REPORT
restarts the status timer, a rule goes into the standby bank, AXIS_MOTION, PRESET and SEARCH replace their
record. Each is answered DONE, and all else is as it was. A TABLE_WRITE that names no table is answered
BAD_TABLE, and one of fewer than two words BAD_VALUE. The checks of every table, in their order, give the result
(R13, R20, R36, R62, R94, R97, R107, R151, R156, R184), the ranges of the fields being those of O55. How a bearing
above 32767 is read is the model's (log 40), and so is the 0 held for the meter of a node not present (log 36). -/
def Obligations.TableWritesReplaceEntries : Prop :=
  (∀ (s : State) (h : Header) (ws : List Word), s.part.consumes h .tableWrite ws → ws.length < 2 →
    exec (.tableWriteBadTable h ws) s = .next (s.answered h .tableWrite .badValue (s.entered h)))
  ∧ (∀ (p : Part) (i : Word) (fs : List Word),
    let result := fun id : Word => (p.tableWrite (id :: i :: fs)).2
    let outside := fun hi : Int => i.toInt < 0 ∨ hi < i.toInt
    let busy := fun x : Axis => (p.act.axes.get x).state ≠ .stopped ∧ (p.act.axes.get x).state ≠ .fault
    -- NODE
    (outside 30 ∨ i.toInt = p.tab.own.val → result 1 = .badIndex)
    ∧ (∀ k : Fin 32, i.toInt = k.val → k.val ≤ 30 → k ≠ p.tab.own →
        (readNode fs = none → result 1 = .badValue)
        ∧ ∀ r, readNode fs = some r →
          let t : Tables := { p.tab with nodes := p.tab.nodes.set k r }
          let kept := ∃ n, (t.node n).present = true ∧ (t.node n).port = .c ∧ (t.node n).role = .maint
          (¬kept → result 1 = .selfCutoff) ∧ (kept → result 1 = .done))
    -- QUANTITY
    ∧ (outside 23 ∨ i.toInt = 11 → result 2 = .badIndex)
    ∧ (∀ q : Fin 24, i.toInt = q.val → q ≠ 11 →
        (readQuantity fs = none → result 2 = .badValue)
        ∧ ∀ r, readQuantity fs = some r →
          let holds := ∀ x, positionOf x = q →
            let m := p.tab.motion.get x
            r.lo ≤ m.softMin ∧ m.softMin ≤ r.hi ∧ r.lo ≤ m.softMax ∧ m.softMax ≤ r.hi
          (r.source = p.tab.own ∨ ¬holds → result 2 = .badValue)
          ∧ (r.source ≠ p.tab.own → holds → result 2 = .done))
    -- RULE_A, RULE_B
    ∧ (∀ which : Bank, (outside 47 → result (ruleTable which) = .badIndex)
      ∧ (¬outside 47 →
        (p.tab.active = which → result (ruleTable which) = .activeBank)
        ∧ (p.tab.active ≠ which → readRule fs = none → result (ruleTable which) = .badValue)
        ∧ (p.tab.active ≠ which → (readRule fs).isSome = true → result (ruleTable which) = .done)))
    -- AXIS_MOTION, AXIS_GUARD
    ∧ (outside 2 → result 5 = .badIndex ∧ result 6 = .badIndex)
    ∧ (∀ x, i.toInt = axisCode x →
        (busy x → result 5 = .inUse ∧ result 6 = .inUse)
        ∧ (¬busy x → readMotion fs = none → result 5 = .badValue)
        ∧ (¬busy x → ∀ r, readMotion fs = some r →
          let q := p.tab.quantity (positionOf x)
          let inside := q.lo ≤ r.softMin ∧ r.softMax ≤ q.hi
          (¬inside → result 5 = .badValue) ∧ (inside → result 5 = .done))
        ∧ (¬busy x → readGuard fs = none → result 6 = .badValue)
        ∧ (¬busy x → ∀ r, readGuard fs = some r →
          let clashes := r.drive = p.tab.own ∨ ∃ y, y ≠ x ∧ (p.tab.guard.get y).drive = r.drive
          (clashes → result 6 = .badValue) ∧ (¬clashes → result 6 = .done)))
    -- PRESET, SEARCH, POINTING
    ∧ (outside 15 → result 7 = .badIndex)
    ∧ (¬outside 15 → (readPreset fs = none → result 7 = .badValue)
        ∧ ((readPreset fs).isSome = true → result 7 = .done))
    ∧ (i ≠ 0 → result 8 = .badIndex ∧ result 9 = .badIndex ∧ result 12 = .badIndex)
    ∧ (i = 0 →
        (p.act.search.state.running = true → result 8 = .inUse)
        ∧ (p.act.search.state.running = false → (readSearch fs = none → result 8 = .badValue)
          ∧ ((readSearch fs).isSome = true → result 8 = .done))
        ∧ (readPointing fs = none → result 9 = .badValue) ∧ ((readPointing fs).isSome = true → result 9 = .done)
        ∧ (readReport fs = none → result 12 = .badValue) ∧ ((readReport fs).isSome = true → result 12 = .done))
    -- LINE, PORT
    ∧ (outside 7 → result 10 = .badIndex) ∧ (i = 0 → result 10 = .fixedLine)
    ∧ (0 < i.toInt → i.toInt ≤ 7 → (readLine fs = none → result 10 = .badValue)
        ∧ ((readLine fs).isSome = true → result 10 = .done))
    ∧ (outside 2 → result 11 = .badIndex)
    ∧ (∀ k : Port, i.toInt = portCode k →
        (readPort fs = none → result 11 = .badValue)
        ∧ ∀ r, readPort fs = some r →
          let cutoff := k = .c ∧ r.state = .closed
          let inUse := k = .d ∧ r.state = .closed ∧ p.sen.mode = .operating
          (cutoff → result 11 = .selfCutoff) ∧ (inUse → result 11 = .inUse)
          ∧ (¬cutoff → ¬inUse → result 11 = .done))
    -- no table
    ∧ (∀ id : Word, id.toInt < 1 ∨ 12 < id.toInt → result id = .badTable)
    ∧ (p.tableWrite []).2 = .badValue ∧ (p.tableWrite [i]).2 = .badValue)
  ∧ ∀ (s : State) (h : Header) (i : Word) (fs : List Word),
    let e := s.entered h
    (∀ (k : Fin 32) (r : NodeEntry), s.part.consumes h .tableWrite (1 :: i :: fs) → i.toInt = k.val → k.val ≤ 30 →
      k ≠ s.part.tab.own → readNode fs = some r → (s.part.tab.setNode k r).keepsMaint = true →
      exec (.tableWriteNode h i fs) s = .next (s.answered h .tableWrite .done
        { e with tab := s.part.tab.setNode k r,
                 sen := { e.sen with meters := e.sen.meters.set k (if r.present then r.burst * 1000 else 0) } }))
    ∧ (∀ (which : Bank) (k : Fin 48) (r : Rule), s.part.consumes h .tableWrite (ruleTable which :: i :: fs) →
      i.toInt = k.val → s.part.tab.active ≠ which → readRule fs = some r →
      exec (.tableWriteRule h which i fs) s = .next (s.answered h .tableWrite .done
        { e with tab := s.part.tab.setRule which k r }))
    ∧ (∀ (x : Axis) (r : MotionRecord), s.part.consumes h .tableWrite (5 :: i :: fs) → axisOf i.toInt = some x →
      ((s.part.act.axes.get x).state = .stopped ∨ (s.part.act.axes.get x).state = .fault) →
      readMotion fs = some r → (s.part.tab.quantity (positionOf x)).lo ≤ r.softMin →
      r.softMax ≤ (s.part.tab.quantity (positionOf x)).hi →
      exec (.tableWriteAxisMotion h i fs) s = .next (s.answered h .tableWrite .done
        { e with tab := { s.part.tab with motion := s.part.tab.motion.set x r } }))
    ∧ (∀ (k : Fin 16) (r : PresetRecord), s.part.consumes h .tableWrite (7 :: i :: fs) → i.toInt = k.val →
      readPreset fs = some r →
      exec (.tableWritePreset h i fs) s = .next (s.answered h .tableWrite .done
        { e with tab := { s.part.tab with presets := s.part.tab.presets.set k r } }))
    ∧ (∀ r : SearchRecord, s.part.consumes h .tableWrite (8 :: i :: fs) → i = 0 →
      (s.part.act.search.state = .idle ∨ s.part.act.search.state = .failed) → readSearch fs = some r →
      exec (.tableWriteSearch h i fs) s = .next (s.answered h .tableWrite .done
        { e with tab := { s.part.tab with search := r } }))
    ∧ (∀ r : ReportRecord, s.part.consumes h .tableWrite (12 :: i :: fs) → i = 0 → readReport fs = some r →
      exec (.tableWriteReport h i fs) s = .next (s.answered h .tableWrite .done
        { e with tab := { s.part.tab with report := r },
                 act := { e.act with out := { e.act.out with statusTimer := some (r.period * 10000) } } }))
    ∧ (∀ id : Word, s.part.consumes h .tableWrite (id :: i :: fs) → (id.toInt < 1 ∨ 12 < id.toInt) →
      exec (.tableWriteBadTable h (id :: i :: fs)) s = .next (s.answered h .tableWrite .badTable e))

/-- O53. Writes of the tables that act on more: a QUANTITY whose kept value the new range shuts out becomes
STALE, with the hand-offs of O11, and another QUANTITY changes the entry alone (R14); an AXIS_GUARD that changes
the drive node makes the drive NOT_READY, and takes the old drive's DEMAND from the queue; a POINTING whose
clear height blocks a mast that moves down zeroes it, with the change of state of R78 and no other axis changed
by it, in one change of axis records (O34; an immediate zero in OPERATING alone: the model's reading, log 11),
which is then handed on (O11); a LINE has its filter state started, kept or discarded; a PORT has its waiting
frames judged anew: the part's own stay in LISTEN, each one removed is a drop as PORT_CLOSED, in the order of
sending (the model's choice, log 18), and the other queues are as they were; port D that leaves CLOSED in
OPERATING sends the zeros of R152, in the order mast, pan, tilt (its choice, log 24). That the cause word is
kept at a change of the drive node, and that the drive age timer restarts for an axis in FAULT too, are the
model's reading (log 33). -/
def Obligations.TableWritesActOnChange : Prop :=
  ∀ (s : State) (h : Header) (i : Word) (fs : List Word),
    let e := s.entered h
    (∀ (q : Fin 24) (r : QuantityEntry), s.part.consumes h .tableWrite (2 :: i :: fs) → i.toInt = q.val → q ≠ 11 →
      readQuantity fs = some r → r.source ≠ s.part.tab.own → r.holdsLimits s.part.tab q = true →
      ∃ p : Part, exec (.tableWriteQuantity h i fs) s = .next (s.answered h .tableWrite .done p)
        ∧ p.tab = { s.part.tab with quantities := s.part.tab.quantities.set q r }
        ∧ (∀ k : Fin 24, k ≠ q → p.sen.image[k] = s.part.sen.image[k])
        ∧ p.sen.image[q] =
            (let old := s.part.sen.image[q]
            if old.state = .fresh ∧ ¬(r.lo ≤ old.value ∧ old.value ≤ r.hi) then
              { old with state := .stale, age := none }
            else old)
        ∧ (let old := s.part.sen.image[q]
          let tab : Tables := { s.part.tab with quantities := s.part.tab.quantities.set q r }
          let shut := old.state = .fresh ∧ ¬(r.lo ≤ old.value ∧ old.value ≤ r.hi)
          (¬shut → p = { e with tab := tab })
          ∧ (shut → p = Part.wentStale q { e with
              tab := tab, sen := e.sen.setQuantity q { old with state := .stale, age := none } })))
    ∧ (∀ (x : Axis) (r : GuardRecord), s.part.consumes h .tableWrite (6 :: i :: fs) → axisOf i.toInt = some x →
      ((s.part.act.axes.get x).state = .stopped ∨ (s.part.act.axes.get x).state = .fault) →
      readGuard fs = some r → r.drive ≠ s.part.tab.own →
      (∀ y, y ≠ x → (s.part.tab.guard.get y).drive ≠ r.drive) →
      let tab : Tables := { s.part.tab with guard := s.part.tab.guard.set x r }
      let old := s.part.act.axes.get x
      (r.drive = (s.part.tab.guard.get x).drive →
        exec (.tableWriteAxisGuard h i fs) s = .next (s.answered h .tableWrite .done { e with tab := tab }))
      ∧ (r.drive ≠ (s.part.tab.guard.get x).drive →
        exec (.tableWriteAxisGuard h i fs) s = .next (s.answered h .tableWrite .done { e with
          tab := tab
          act := { e.act with
            axes := s.part.act.axes.set x { old with
              drive := .notReady
              driveAge := if s.part.sen.mode = .operating then .running (r.ageLimit * 10000) else old.driveAge }
            out := { e.act.out with driveQueue := (e.act.out.driveQueue.filter fun d => !d.isDemandOf x) } } })))
    ∧ (∀ r : PointingRecord, s.part.consumes h .tableWrite (9 :: i :: fs) → i = 0 → readPointing fs = some r →
      let tab : Tables := { s.part.tab with pointing := r }
      let blocks := s.part.act.axes.mast.vPrev < 0 ∧ s.part.ctx.pos .mast ≤ r.clearHeight
        ∧ ¬(s.part.ctx.inStow .pan = true ∧ s.part.ctx.inStow .tilt = true)
      (¬blocks → exec (.tableWritePointing h i fs) s = .next (s.answered h .tableWrite .done { e with tab := tab }))
      ∧ (blocks → ∃ a : Acting,
          exec (.tableWritePointing h i fs) s = .next (s.answered h .tableWrite .done { e with tab := tab, act := a })
          ∧ a = e.act.guardMast ⟨tab, e.sen⟩
          ∧ (∃ b : Acting, a = b.handAxes ⟨tab, e.sen⟩ s.part.act.axes
              ∧ b = e.act.shift ⟨tab, e.sen⟩ (immediateZeros ⟨tab, e.sen⟩ fun x => decide (x = .mast))
                  (fun x r => if x = .mast then r.held else r)
              ∧ b.axes = s.part.act.axes.set .mast s.part.act.axes.mast.held
              ∧ b.search = s.part.act.search ∧ b.seq = s.part.act.seq)
          ∧ a.axes.mast.vPrev = 0
          ∧ (s.part.sen.mode = .operating → s.part.tab.ports.d.state ≠ .closed →
              Output.sends (demandFrame s.part.tab .mast 0) .mast a.out)))
    ∧ (∀ (pins : BitVec 8) (k : Fin 8) (r : LineRecord), s.part.consumes h .tableWrite (10 :: i :: fs) →
      i.toInt = k.val → k ≠ 0 → readLine fs = some r →
      let old := s.part.tab.line k
      ∃ f : Option LineFilter,
        exec (.tableWriteLine h pins i fs) s = .next (s.answered h .tableWrite .done
          { e with
            tab := { s.part.tab with lines := s.part.tab.lines.set k r }
            sen := { e.sen with pins := pins, filters := e.sen.filters.set k f } })
        ∧ (isInputFunction r.function = false → f = none)
        ∧ (isInputFunction r.function = true → isInputFunction old.function = false →
            f = some { level := xor (pins.getLsbD k.val) r.invert, run := 0 })
        ∧ ∀ g, isInputFunction r.function = true → isInputFunction old.function = true →
            s.part.sen.filters[k] = some g → f = some { level := xor g.level (xor old.invert r.invert), run := 0 })
    ∧ (∀ (k : Port) (r : PortRecord), s.part.consumes h .tableWrite (11 :: i :: fs) → portOf i.toInt = some k →
      readPort fs = some r →
      let tab : Tables := { s.part.tab with ports := s.part.tab.ports.set k r }
      let was := (s.part.tab.ports.get k).state
      (k = .c → r.state = .closed →
        exec (.tableWritePort h i fs) s = .next (s.answered h .tableWrite .selfCutoff e))
      ∧ (k = .d → r.state = .closed → s.part.sen.mode = .operating →
        exec (.tableWritePort h i fs) s = .next (s.answered h .tableWrite .inUse e))
      ∧ (¬(k = .c ∧ r.state = .closed) → ¬(k = .d ∧ r.state = .closed ∧ s.part.sen.mode = .operating) →
        let o := e.act.out
        let own := fun c : CEntry => decide (c.origin = .own)
        let went : List DropRecord :=
          if r.state = .opened ∨ r.state = was then []
          else match (generalizing := false) k with
            | .c => ((o.urgent ++ o.routine).filter (!own ·)).map (·.dropAs tab .portClosed)
            | .s => o.sensorQueue.map (dropOf .portClosed .s)
            | .d => (o.driveQueue.filter fun d => d.isData || decide (r.state = .closed)).map fun d =>
                dropOf .portClosed .d d.frame
        let stays : Output :=
          if r.state = .opened ∨ r.state = was then o
          else match (generalizing := false) k with
            | .c => { o with urgent := o.urgent.filter own, routine := o.routine.filter own }
            | .s => { o with sensorQueue := [] }
            | .d => { o with driveQueue := o.driveQueue.filter fun d => !d.isData && decide (r.state ≠ .closed) }
        let judged : Acting := { e.act with
          out := went.foldl (fun o d => o.drop tab (statusWords ⟨tab, e.sen⟩ e.act) d) stays }
        let reopens := k = .d ∧ was = .closed ∧ r.state ≠ .closed ∧ s.part.sen.mode = .operating
        ∃ a : Acting, exec (.tableWritePort h i fs) s = .next (s.answered h .tableWrite .done { e with tab := tab, act := a })
          ∧ (¬reopens → a = judged)
          ∧ (reopens → a = judged.shift ⟨tab, e.sen⟩ (fun _ => some 0)
              (fun _ r => { r with vPrev := 0, stallTimer := none }))
          ∧ (a.out.counters.get k).portClosed = (bumpTo 65535)^[went.length] (o.counters.get k).portClosed
          ∧ a.out.dropA = o.dropA.or went.head?
          ∧ (k ≠ .s → a.out.sensorQueue = o.sensorQueue)
          ∧ (k ≠ .d → a.out.driveQueue = o.driveQueue)
          ∧ (r.state = was → a = e.act)
          ∧ (r.state ≠ was → r.state = .closed → k = .s → a.out.sensorQueue = [])
          ∧ (r.state ≠ was → r.state = .closed → k = .d → a.out.driveQueue = [])
          ∧ (r.state ≠ was → r.state = .listen → k = .s → a.out.sensorQueue = [])
          ∧ (r.state ≠ was → r.state = .listen → k = .d → was = .opened →
              a.out.driveQueue = s.part.act.out.driveQueue.filter fun d => !d.isData)
          ∧ (r.state ≠ was → r.state = .listen → k = .c →
              ∀ c ∈ a.out.urgent ++ a.out.routine, c.origin = .own)
          ∧ (k = .d → was = .closed → r.state ≠ .closed → s.part.sen.mode = .operating →
              ∀ x, (a.axes.get x).vPrev = 0 ∧ Output.sends (demandFrame tab x 0) x a.out)))

/-- O54. R145, R147, R182, R183: every TABLE_WRITE row is the write of its table, answered with its result, by
the checks of O52; one that is refused, by any table, changes nothing but the REPLY. A command frame of another
length than its kind's, or with a word out of its range, is answered BAD_VALUE and changes nothing; with GOTO
this is so of three absent goals too (O37). A TABLE_READ changes nothing but the REPLY, which carries the
entry's fields in their write order (O55) and the runtime words after them (R15, R32, R38, R64, R95, R98, R109,
R118, R154, R157, R184), BAD_INDEX without words for an index outside the table, and BAD_TABLE for an id outside
1..13. Every row that brings such a frame is the same arrival (model's reading, logs 6 and 7). That the meter of
a node not present reads 0 is the model's choice (log 36). -/
def Obligations.TableReadsAndRefusalsChangeNothing : Prop :=
  (∀ (ws : List Word) (p : Part), (p.tableWrite ws).2 ≠ .done → (p.tableWrite ws).1 = p)
  ∧ (∀ (c : Instr) (s : State) (h : Header) (ws : List Word), c.arrival = some (h.port, frameOf h .tableWrite ws) →
    s.part.consumes h .tableWrite ws →
    let r := (c.seenBy (s.entered h)).tableWrite ws
    exec c s = .next (s.answered h .tableWrite r.2 r.1))
  ∧ (∀ (c : Instr) (s : State) (h : Header) (k : Kind) (ws : List Word), c.arrival = some (h.port, frameOf h k ws) →
    s.part.consumes h k ws →
    let off := fun (hi : Int) (w : Word) => w.toInt < 0 ∨ hi < w.toInt
    let bad : Prop := match (generalizing := false) k with
      | .reset | .start | .stow | .searchStart | .searchEnd | .readStatus | .readDrops => ws ≠ []
      | .aim => ∀ w, ws = [w] → off 15 w
      | .stop | .clear => ∀ w, ws = [w] → off 3 w
      | .bankSwap => ∀ w, ws = [w] → off 1 w
      | .readCounters => ∀ w, ws = [w] → off 2 w
      | .jog => ∀ w rate, ws = [w, rate] → off 2 w
      | .linesSet => ∀ m v, ws = [m, v] → off 255 m ∨ off 255 v
      | .lampTest => ∀ a b, ws = [a, b] → off 1 a ∨ off 1 b
      | .goto => ws.length ≠ 3
      | .tableRead => ws.length ≠ 2
      | .tableWrite => ws.length < 2
      | .sample | .driveStatus | .demand | .nodeData | .status | .reply | .event => False
    bad → exec c s = .next (s.answered h k .badValue (c.seenBy (s.entered h))))
  ∧ (∀ (s : State) (h : Header) (id index : Word), s.part.consumes h .tableRead [id, index] →
    let e := s.entered h
    let r := e.tableRead id.toInt index.toInt
    exec (.tableRead h [id, index]) s = .next (s.settled (e.reply h.src .tableRead r.1 r.2)))
  ∧ ∀ (p : Part) (index : Int),
    let int := fun v : Int => (BitVec.ofInt 16 v : Word)
    let nat := fun v : Nat => (BitVec.ofNat 16 v : Word)
    let flag := fun v : Bool => (if v then 1 else 0 : Word)
    let maybe := fun v : Option Int => int (v.getD (-32768))
    let outside := fun hi : Int => index < 0 ∨ hi < index
    (∀ id : Int, id < 1 ∨ 13 < id → p.tableRead id index = (.badTable, []))
    -- NODE, QUANTITY
    ∧ (∀ n : Fin 32, p.tableRead 1 n.val = (.done, (p.tab.node n).words ++
        [nat (if (p.tab.node n).present then p.sen.meters[n] / 1000 else 0)]))
    ∧ (outside 31 → p.tableRead 1 index = (.badIndex, []))
    ∧ (∀ q : Fin 24, p.tableRead 2 q.val = (.done, (p.tab.quantity q).words ++
        [int (p.sen.image[q]).value, int (quantityStateCode (p.sen.image[q]).state), nat (p.sen.image[q]).faults]))
    ∧ (outside 23 → p.tableRead 2 index = (.badIndex, []))
    -- RULE_A, RULE_B
    ∧ (∀ (which : Bank) (k : Fin 48),
        let id : Int := (ruleTable which).toInt
        let r := (p.tab.bank which)[k]
        (r.used = true → p.tab.active = which → ∀ g, p.sen.groupOf k.val = some g →
          p.tableRead id k.val = (.done, r.words ++ [int (groupStateCode g.state), nat g.trueRun, nat g.falseRun]))
        ∧ (r.used = false ∨ p.tab.active ≠ which ∨ p.sen.groupOf k.val = none →
          p.tableRead id k.val = (.done, r.words ++ [0, 0, 0])))
    ∧ (outside 47 → p.tableRead 3 index = (.badIndex, []) ∧ p.tableRead 4 index = (.badIndex, []))
    -- AXIS_MOTION, AXIS_GUARD
    ∧ (∀ x : Axis,
        let r := p.act.axes.get x
        p.tableRead 5 (axisCode x) = (.done, (p.tab.motion.get x).words ++
          [int (axisStateCode r.state), int (ownerCode r.owner), maybe r.goal, int r.vPrev])
        ∧ p.tableRead 6 (axisCode x) = (.done, (p.tab.guard.get x).words ++
          [int (driveStateCode r.drive), r.driveCause, int (faultCauseCode r.faultCause)]))
    ∧ (outside 2 → p.tableRead 5 index = (.badIndex, []) ∧ p.tableRead 6 index = (.badIndex, []))
    -- PRESET, SEARCH, POINTING
    ∧ (∀ n : Fin 16, p.tableRead 7 n.val = (.done, (p.tab.presets[n]).words))
    ∧ (outside 15 → p.tableRead 7 index = (.badIndex, []))
    ∧ p.tableRead 8 0 = (.done, p.tab.search.words)
    ∧ (let r := p.act.search
      p.tableRead 8 1 = (.done,
        [int (searchStateCode r.state), int (failureReasonCode r.reason), if r.turn = .pan then 1 else 2,
         int (if r.positive then 1 else -1), nat r.step, nat r.count,
         maybe (r.centre.map (·.pan)), maybe (r.centre.map (·.tilt)), maybe (r.best.map (·.pan)),
         maybe (r.best.map (·.tilt)), maybe r.bestLevel, maybe r.peak, nat r.repeaks]))
    ∧ (outside 1 → p.tableRead 8 index = (.badIndex, []))
    ∧ (let r := p.act.pointing
      p.tableRead 9 0 = (.done, p.tab.pointing.words ++
        [maybe (r.lastPreset.map fun n => (n.val : Int)), maybe r.snapshot, flag r.pending.isSome]))
    -- LINE, PORT, REPORT, PROBES
    ∧ (∀ k : Fin 8, p.tableRead 10 k.val = (.done, (p.tab.line k).words ++
        [flag ((BitVec.ofInt 16 p.sen.lines).getLsbD k.val)]))
    ∧ (outside 7 → p.tableRead 10 index = (.badIndex, []))
    ∧ (∀ k : Port, p.tableRead 11 (portCode k) = (.done, (p.tab.ports.get k).words ++
        [nat (match k with
          | .c => p.act.out.urgent.length + p.act.out.routine.length
          | .s => p.act.out.sensorQueue.length
          | .d => p.act.out.driveQueue.length)]))
    ∧ (outside 2 → p.tableRead 11 index = (.badIndex, []))
    ∧ p.tableRead 12 0 = (.done, p.tab.report.words ++ [p.act.out.seen.setWidth 16])
    ∧ (outside 0 → p.tableRead 9 index = (.badIndex, []) ∧ p.tableRead 12 index = (.badIndex, []))
    ∧ (∀ k : Fin 8,
        (∀ e, p.act.search.history[k.val]? = some e → p.tableRead 13 k.val = (.done,
          [1, int e.goal.pan, int e.goal.tilt, int e.level, flag e.accepted, nat e.step]))
        ∧ (p.act.search.history.length ≤ k.val → p.tableRead 13 k.val = (.done,
          [0, 0x8000, 0x8000, 0x8000, 0x8000, 0x8000])))
    ∧ (outside 7 → p.tableRead 13 index = (.badIndex, []))

/-- O55. R182, R183: the fields read from the words of a table write are written back as the same words, in
every table; the words that are read as fields are exactly those of an entry whose fields lie in their ranges
(R13, R19, R20, R35, R60, R61, R93, R94, R96, R106, R151, R155, R184); and the words of an entry, which a read
carries, are its fields in their write order. That a bearing's word above 8000 hexadecimal is read without a
sign, in the PRESET clauses, is the model's reading (log 40). -/
def Obligations.EntryWordsReadBack : Prop :=
  (∀ ws : List Word,
    (∀ r, readNode ws = some r → r.words = ws) ∧ (∀ r, readQuantity ws = some r → r.words = ws)
    ∧ (∀ r, readRule ws = some r → r.words = ws) ∧ (∀ r, readMotion ws = some r → r.words = ws)
    ∧ (∀ r, readGuard ws = some r → r.words = ws) ∧ (∀ r, readPreset ws = some r → r.words = ws)
    ∧ (∀ r, readSearch ws = some r → r.words = ws) ∧ (∀ r, readPointing ws = some r → r.words = ws)
    ∧ (∀ r, readLine ws = some r → r.words = ws) ∧ (∀ r, readPort ws = some r → r.words = ws)
    ∧ (∀ r, readReport ws = some r → r.words = ws))
  ∧ (∀ ws : List Word,
    let word := fun v : Int => -32768 ≤ v ∧ v ≤ 32767
    (∀ r, readNode ws = some r ↔ ws = r.words ∧ 1 ≤ r.rate ∧ r.rate ≤ 1000 ∧ 1 ≤ r.burst ∧ r.burst ≤ 64 ∧ r.cap ≤ 7)
    ∧ (∀ r, readQuantity ws = some r ↔ ws = r.words ∧ -32767 ≤ r.lo ∧ r.lo ≤ r.hi ∧ r.hi ≤ 32767
        ∧ 1 ≤ r.maxAge ∧ r.maxAge ≤ 255)
    ∧ (∀ r, readRule ws = some r ↔ ws = r.words ∧ word r.threshold ∧ 1 ≤ r.assertP ∧ r.assertP ≤ 15
        ∧ 1 ≤ r.releaseP ∧ r.releaseP ≤ 15)
    ∧ (∀ r, readMotion ws = some r ↔ ws = r.words ∧ word r.softMin ∧ word r.softMax ∧ r.softMin < r.softMax
        ∧ 1 ≤ r.vmax ∧ r.vmax ≤ 1000 ∧ 1 ≤ r.accel ∧ r.accel ≤ 1000 ∧ 1 ≤ r.gain ∧ r.gain ≤ 255 ∧ r.deadband ≤ 500
        ∧ 1 ≤ r.settleCount ∧ r.settleCount ≤ 15 ∧ r.period ≤ 255)
    ∧ (∀ r, readGuard ws = some r ↔ ws = r.words ∧ r.drive.val ≤ 30 ∧ 1 ≤ r.ageLimit ∧ r.ageLimit ≤ 255
        ∧ 1 ≤ r.stallDemand ∧ r.stallDemand ≤ 1000 ∧ 1 ≤ r.stallTime ∧ r.stallTime ≤ 255 ∧ 1 ≤ r.stallDist
        ∧ r.stallDist ≤ 1000 ∧ word r.stowPos ∧ r.stowTol ≤ 2000)
    ∧ (∀ r, readPreset ws = some r ↔ ws = r.words
        ∧ (∀ v, r.height = some v → 0 ≤ v ∧ v ≤ 32767)
        ∧ (∀ v, r.bearing = some v → 0 ≤ v ∧ v ≤ 35999 ∧ v ≠ 32768)
        ∧ (∀ v, r.elevation = some v → -9000 ≤ v ∧ v ≤ 9000)
        ∧ (r.present = true → r.height.isSome = true ∨ r.bearing.isSome = true ∨ r.elevation.isSome = true)
        ∧ (r.searchAfter = true → r.bearing.isSome = true ∧ r.elevation.isSome = true))
    ∧ (∀ r, readSearch ws = some r ↔ ws = r.words ∧ 5 ≤ r.s0 ∧ r.s0 ≤ 500 ∧ 1 ≤ r.smin ∧ r.smin ≤ 50
        ∧ r.smin ≤ r.s0 ∧ 1 ≤ r.samples ∧ r.samples ≤ 16 ∧ 0 ≤ r.improve ∧ r.improve ≤ 100 ∧ 50 ≤ r.window
        ∧ r.window ≤ 3000 ∧ 0 ≤ r.floor ∧ r.floor ≤ 1000 ∧ 1 ≤ r.repeakDrop ∧ r.repeakDrop ≤ 200
        ∧ 1 ≤ r.maxProbes ∧ r.maxProbes ≤ 255 ∧ 1 ≤ r.suspendLimit ∧ r.suspendLimit ≤ 600)
    ∧ (∀ r, readPointing ws = some r ↔ ws = r.words ∧ -3000 ≤ r.declination ∧ r.declination ≤ 3000
        ∧ 0 ≤ r.clearHeight ∧ r.clearHeight ≤ r.safeHeight ∧ r.safeHeight ≤ 15000
        ∧ 5 ≤ r.jogTimeout ∧ r.jogTimeout ≤ 200 ∧ 5 ≤ r.phaseTimeout ∧ r.phaseTimeout ≤ 600)
    ∧ (∀ r, readLine ws = some r ↔ ws = r.words ∧ r.function ≠ .estop ∧ r.value ≤ 47
        ∧ (r.function = .output → r.value ≤ 1))
    ∧ (∀ r, readPort ws = some r ↔ ws = r.words)
    ∧ (∀ r, readReport ws = some r ↔ ws = r.words ∧ 10 ≤ r.period ∧ r.period ≤ 6000))
  ∧ (let int := fun v : Int => (BitVec.ofInt 16 v : Word)
    let nat := fun v : Nat => (BitVec.ofNat 16 v : Word)
    let flag := fun v : Bool => (if v then 1 else 0 : Word)
    let maybe := fun v : Option Int => int (v.getD (-32768))
    (∀ r : NodeEntry, r.words = [flag r.present, int (portCode r.port), int (roleCode r.role), r.rights.setWidth 16,
      flag r.mirror, nat r.rate, nat r.burst, nat r.cap])
    ∧ (∀ r : QuantityEntry, r.words = [int r.lo, int r.hi, nat r.maxAge, nat r.source.val])
    ∧ (∀ r : Rule, r.words = [flag r.used, nat r.operand.val, int (conditionCode r.condition), int r.threshold,
      int (joinCode r.join), nat r.assertP, nat r.releaseP, r.inhibits.setWidth 16, int (actionCode r.action),
      flag r.report])
    ∧ (∀ r : MotionRecord, r.words = [int r.softMin, int r.softMax, nat r.vmax, nat r.accel, nat r.gain,
      nat r.deadband, nat r.settleCount, nat r.period])
    ∧ (∀ r : GuardRecord, r.words = [nat r.drive.val, nat r.ageLimit, nat r.stallDemand, nat r.stallTime,
      nat r.stallDist, int r.stowPos, nat r.stowTol])
    ∧ (∀ r : PresetRecord, r.words = [flag r.present, maybe r.height, maybe r.bearing, maybe r.elevation,
      flag r.searchAfter])
    ∧ (∀ r : SearchRecord, r.words = [nat r.s0, nat r.smin, nat r.samples, int r.improve, int r.window, int r.floor,
      int r.repeakDrop, nat r.maxProbes, nat r.suspendLimit])
    ∧ (∀ r : PointingRecord, r.words = [int r.declination, int r.clearHeight, int r.safeHeight, nat r.jogTimeout,
      nat r.phaseTimeout])
    ∧ (∀ r : LineRecord, r.words = [int (lineFunctionCode r.function), flag r.invert, nat r.filter.val, nat r.value])
    ∧ (∀ r : PortRecord, r.words = [int (portStateCode r.state), r.mask.setWidth 16])
    ∧ ∀ r : ReportRecord, r.words = [nat r.period, r.enables.setWidth 16])

/-! ### Laws that every step keeps -/

/-- O56. R62, R169, R170, R173: the laws of the queues are kept by every step: at most sixteen frames wait for
port C, of which at most one is a STATUS, and that ROUTINE; no axis has two DEMANDs waiting, each is
addressed to its axis's drive node, the three drive nodes differ, so that no two waiting DEMANDs are for one
drive node; at most five NODE_DATA wait for port D and at most four frames for port S. -/
def Obligations.StepsKeepQueueLaw : Prop :=
  ∀ s s' : State, s.part.queueLaw → step s = .next s' → s'.part.queueLaw

/-- O57. R3, R12, R160, R164: three laws of counts are kept by every step: each rate meter lies within the
capacity of its node; each counter of a port is at most 65535 and each fault count at most 255; and LINES
stays FRESH, within 0..255, without an age timer and with a fault count of 0. That the capacity, and so the meter, of
a node that is not present is 0 is the model's choice (log 36). -/
def Obligations.StepsKeepCountLaws : Prop :=
  ∀ s s' : State, step s = .next s' →
    (s.part.meterLaw → s'.part.meterLaw) ∧ (s.part.counterLaw → s'.part.counterLaw)
      ∧ (s.part.linesLaw → s'.part.linesLaw)

/-- O58. R62, R65, R72, R87: two laws of the axes are kept by every step. The law of the records: a goal is present
exactly in MOVING, AT_GOAL and HELD and lies within the soft limits, a jog request exactly in JOGGING and within
-vmax..+vmax, a fault cause exactly in FAULT, an owner only where the state has one; and the soft limits lie in
order within the range of the position quantity. The law of positions: an axis in MOVING, AT_GOAL, HELD, JOGGING or
STOPPING has a fresh position. -/
def Obligations.StepsKeepAxisLaw : Prop :=
  ∀ s s' : State, step s = .next s' →
    (s.part.axisLaw → s'.part.axisLaw) ∧ (s.part.freshLaw → s'.part.freshLaw)

/-- O59. R54, R71, R73, R74: the laws of the drive demands are kept by every step: the permit set is the one
that R54 forms; every axis's v_prev lies within -vmax..+vmax, and one other than 0 has its direction in the
permit set and belongs to an axis that may move; every waiting DEMAND carries its axis's v_prev, so that
none that waits is nonzero while ESTOP is asserted or the mode is UNCONFIGURED; and at a CLOSED port D
none waits. -/
def Obligations.StepsKeepDemandLaws : Prop :=
  ∀ s s' : State, s.part.rateLaw → step s = .next s' → s'.part.rateLaw

/-- O60. R71, R92, R178: in UNCONFIGURED the part stays at rest: every step keeps each axis STOPPED with no
owner, goal, jog request or timer and v_prev 0, the search and the sequencer IDLE, no search-after pending
and the permit set empty. The mode leaves OPERATING only at a step whose command is POWER_ON_RESET or the arrival of a
RESET frame without payload. -/
def Obligations.StepsKeepUnconfiguredAtRest : Prop :=
  ∀ s s' : State, step s = .next s' →
    (s.part.restLaw → s'.part.restLaw)
    ∧ (s.part.sen.mode = .operating → s'.part.sen.mode = .unconfigured →
      ∃ c rest, s.pending = c :: rest ∧ ((∃ straps pins, c = .powerOnReset straps pins)
        ∨ ∃ port f, c.arrival = some (port, f) ∧ f.kind = .reset ∧ f.payload = []))
end

