-- ==== Sys2Proof/Laws/State.lean ====
section
/-! SUPPORT. One lemma for each field of each named update of the state, true by rfl: no later proof unfolds
a record update. -/

namespace Sys2Proof.Machine

/-! ### Shapes -/

@[simp] theorem PerAxis.get_mast {α : Type} (t : PerAxis α) : t.get .mast = t.mast := rfl
@[simp] theorem PerAxis.get_pan {α : Type} (t : PerAxis α) : t.get .pan = t.pan := rfl
@[simp] theorem PerAxis.get_tilt {α : Type} (t : PerAxis α) : t.get .tilt = t.tilt := rfl
@[simp] theorem PerAxis.set_mast_mast {α : Type} (t : PerAxis α) (v : α) : (t.set .mast v).mast = v := rfl
@[simp] theorem PerAxis.set_mast_pan {α : Type} (t : PerAxis α) (v : α) : (t.set .mast v).pan = t.pan := rfl
@[simp] theorem PerAxis.set_mast_tilt {α : Type} (t : PerAxis α) (v : α) : (t.set .mast v).tilt = t.tilt := rfl
@[simp] theorem PerAxis.set_pan_mast {α : Type} (t : PerAxis α) (v : α) : (t.set .pan v).mast = t.mast := rfl
@[simp] theorem PerAxis.set_pan_pan {α : Type} (t : PerAxis α) (v : α) : (t.set .pan v).pan = v := rfl
@[simp] theorem PerAxis.set_pan_tilt {α : Type} (t : PerAxis α) (v : α) : (t.set .pan v).tilt = t.tilt := rfl
@[simp] theorem PerAxis.set_tilt_mast {α : Type} (t : PerAxis α) (v : α) : (t.set .tilt v).mast = t.mast := rfl
@[simp] theorem PerAxis.set_tilt_pan {α : Type} (t : PerAxis α) (v : α) : (t.set .tilt v).pan = t.pan := rfl
@[simp] theorem PerAxis.set_tilt_tilt {α : Type} (t : PerAxis α) (v : α) : (t.set .tilt v).tilt = v := rfl
@[simp] theorem PerPort.get_c {α : Type} (t : PerPort α) : t.get .c = t.c := rfl
@[simp] theorem PerPort.get_s {α : Type} (t : PerPort α) : t.get .s = t.s := rfl
@[simp] theorem PerPort.get_d {α : Type} (t : PerPort α) : t.get .d = t.d := rfl
@[simp] theorem PerPort.set_c_c {α : Type} (t : PerPort α) (v : α) : (t.set .c v).c = v := rfl
@[simp] theorem PerPort.set_c_s {α : Type} (t : PerPort α) (v : α) : (t.set .c v).s = t.s := rfl
@[simp] theorem PerPort.set_c_d {α : Type} (t : PerPort α) (v : α) : (t.set .c v).d = t.d := rfl
@[simp] theorem PerPort.set_s_c {α : Type} (t : PerPort α) (v : α) : (t.set .s v).c = t.c := rfl
@[simp] theorem PerPort.set_s_s {α : Type} (t : PerPort α) (v : α) : (t.set .s v).s = v := rfl
@[simp] theorem PerPort.set_s_d {α : Type} (t : PerPort α) (v : α) : (t.set .s v).d = t.d := rfl
@[simp] theorem PerPort.set_d_c {α : Type} (t : PerPort α) (v : α) : (t.set .d v).c = t.c := rfl
@[simp] theorem PerPort.set_d_s {α : Type} (t : PerPort α) (v : α) : (t.set .d v).s = t.s := rfl
@[simp] theorem PerPort.set_d_d {α : Type} (t : PerPort α) (v : α) : (t.set .d v).d = v := rfl

theorem PerAxis.get_set_self {α : Type} (t : PerAxis α) (x : Axis) (v : α) : (t.set x v).get x = v := by
  cases x <;> rfl

theorem PerAxis.get_set_of_ne {α : Type} (t : PerAxis α) {x y : Axis} (h : y ≠ x) (v : α) :
    (t.set x v).get y = t.get y := by
  cases x <;> cases y <;> first | rfl | exact absurd rfl h

theorem PerPort.get_set_self {α : Type} (t : PerPort α) (k : Port) (v : α) : (t.set k v).get k = v := by
  cases k <;> rfl

theorem PerPort.get_set_of_ne {α : Type} (t : PerPort α) {k j : Port} (h : j ≠ k) (v : α) :
    (t.set k v).get j = t.get j := by
  cases k <;> cases j <;> first | rfl | exact absurd rfl h

/-! ### The part -/

@[simp] theorem Part.acting_tab (f : Ctx → Acting → Acting) (p : Part) : (p.acting f).tab = p.tab := rfl
@[simp] theorem Part.acting_sen (f : Ctx → Acting → Acting) (p : Part) : (p.acting f).sen = p.sen := rfl
@[simp] theorem Part.acting_act (f : Ctx → Acting → Acting) (p : Part) : (p.acting f).act = f p.ctx p.act := rfl

/-! ### The tables of the part -/

@[simp] theorem Part.tabled_tab (f : Tables → Tables) (p : Part) : (p.tabled f).tab = f p.tab := rfl
@[simp] theorem Part.tabled_sen (f : Tables → Tables) (p : Part) : (p.tabled f).sen = p.sen := rfl
@[simp] theorem Part.tabled_act (f : Tables → Tables) (p : Part) : (p.tabled f).act = p.act := rfl

/-! ### A reply -/

@[simp] theorem Part.reply_tab (n : Node) (k : Kind) (r : Result) (ws : List Word) (p : Part) : (p.reply n k r ws).tab = p.tab := rfl
@[simp] theorem Part.reply_sen (n : Node) (k : Kind) (r : Result) (ws : List Word) (p : Part) : (p.reply n k r ws).sen = p.sen := rfl

/-! ### Admission -/

@[simp] theorem Part.entered_tab (k : Port) (n : Node) (p : Part) : (p.entered k n).tab = p.tab := rfl
@[simp] theorem Part.entered_sen (k : Port) (n : Node) (p : Part) : (p.entered k n).sen = p.sen.spend n := rfl
@[simp] theorem Part.entered_act (k : Port) (n : Node) (p : Part) : (p.entered k n).act = { p.act with out := p.act.out.countReceived k } := rfl

/-! ### The reader's view -/

@[simp] theorem Part.ctx_tab (p : Part) : (p.ctx).tab = p.tab := rfl
@[simp] theorem Part.ctx_sen (p : Part) : (p.ctx).sen = p.sen := rfl

/-! ### One quantity -/

@[simp] theorem Sensed.setQuantity_mode (q : Fin 24) (r : QuantityRun) (s : Sensed) : (s.setQuantity q r).mode = s.mode := rfl
@[simp] theorem Sensed.setQuantity_held (q : Fin 24) (r : QuantityRun) (s : Sensed) : (s.setQuantity q r).held = s.held := rfl
@[simp] theorem Sensed.setQuantity_pins (q : Fin 24) (r : QuantityRun) (s : Sensed) : (s.setQuantity q r).pins = s.pins := rfl
@[simp] theorem Sensed.setQuantity_image (q : Fin 24) (r : QuantityRun) (s : Sensed) : (s.setQuantity q r).image = s.image.set q r := rfl
@[simp] theorem Sensed.setQuantity_filters (q : Fin 24) (r : QuantityRun) (s : Sensed) : (s.setQuantity q r).filters = s.filters := rfl
@[simp] theorem Sensed.setQuantity_testOn (q : Fin 24) (r : QuantityRun) (s : Sensed) : (s.setQuantity q r).testOn = s.testOn := rfl
@[simp] theorem Sensed.setQuantity_testOff (q : Fin 24) (r : QuantityRun) (s : Sensed) : (s.setQuantity q r).testOff = s.testOff := rfl
@[simp] theorem Sensed.setQuantity_groups (q : Fin 24) (r : QuantityRun) (s : Sensed) : (s.setQuantity q r).groups = s.groups := rfl
@[simp] theorem Sensed.setQuantity_permit (q : Fin 24) (r : QuantityRun) (s : Sensed) : (s.setQuantity q r).permit = s.permit := rfl
@[simp] theorem Sensed.setQuantity_meters (q : Fin 24) (r : QuantityRun) (s : Sensed) : (s.setQuantity q r).meters = s.meters := rfl
@[simp] theorem Sensed.setQuantity_sampleTimer (q : Fin 24) (r : QuantityRun) (s : Sensed) : (s.setQuantity q r).sampleTimer = s.sampleTimer := rfl
@[simp] theorem Sensed.setQuantity_refillTimer (q : Fin 24) (r : QuantityRun) (s : Sensed) : (s.setQuantity q r).refillTimer = s.refillTimer := rfl

/-! ### LINES -/

@[simp] theorem Sensed.writeLines_mode (v : Int) (s : Sensed) : (s.writeLines v).mode = s.mode := rfl
@[simp] theorem Sensed.writeLines_held (v : Int) (s : Sensed) : (s.writeLines v).held = s.held := rfl
@[simp] theorem Sensed.writeLines_pins (v : Int) (s : Sensed) : (s.writeLines v).pins = s.pins := rfl
@[simp] theorem Sensed.writeLines_filters (v : Int) (s : Sensed) : (s.writeLines v).filters = s.filters := rfl
@[simp] theorem Sensed.writeLines_testOn (v : Int) (s : Sensed) : (s.writeLines v).testOn = s.testOn := rfl
@[simp] theorem Sensed.writeLines_testOff (v : Int) (s : Sensed) : (s.writeLines v).testOff = s.testOff := rfl
@[simp] theorem Sensed.writeLines_groups (v : Int) (s : Sensed) : (s.writeLines v).groups = s.groups := rfl
@[simp] theorem Sensed.writeLines_permit (v : Int) (s : Sensed) : (s.writeLines v).permit = s.permit := rfl
@[simp] theorem Sensed.writeLines_meters (v : Int) (s : Sensed) : (s.writeLines v).meters = s.meters := rfl
@[simp] theorem Sensed.writeLines_sampleTimer (v : Int) (s : Sensed) : (s.writeLines v).sampleTimer = s.sampleTimer := rfl
@[simp] theorem Sensed.writeLines_refillTimer (v : Int) (s : Sensed) : (s.writeLines v).refillTimer = s.refillTimer := rfl

/-! ### Tokens -/

@[simp] theorem Sensed.spend_mode (n : Node) (s : Sensed) : (s.spend n).mode = s.mode := rfl
@[simp] theorem Sensed.spend_held (n : Node) (s : Sensed) : (s.spend n).held = s.held := rfl
@[simp] theorem Sensed.spend_pins (n : Node) (s : Sensed) : (s.spend n).pins = s.pins := rfl
@[simp] theorem Sensed.spend_image (n : Node) (s : Sensed) : (s.spend n).image = s.image := rfl
@[simp] theorem Sensed.spend_filters (n : Node) (s : Sensed) : (s.spend n).filters = s.filters := rfl
@[simp] theorem Sensed.spend_testOn (n : Node) (s : Sensed) : (s.spend n).testOn = s.testOn := rfl
@[simp] theorem Sensed.spend_testOff (n : Node) (s : Sensed) : (s.spend n).testOff = s.testOff := rfl
@[simp] theorem Sensed.spend_groups (n : Node) (s : Sensed) : (s.spend n).groups = s.groups := rfl
@[simp] theorem Sensed.spend_permit (n : Node) (s : Sensed) : (s.spend n).permit = s.permit := rfl
@[simp] theorem Sensed.spend_sampleTimer (n : Node) (s : Sensed) : (s.spend n).sampleTimer = s.sampleTimer := rfl
@[simp] theorem Sensed.spend_refillTimer (n : Node) (s : Sensed) : (s.spend n).refillTimer = s.refillTimer := rfl

/-! ### The search record -/

@[simp] theorem Acting.searching_axes (f : SearchRun → SearchRun) (a : Acting) : (a.searching f).axes = a.axes := rfl
@[simp] theorem Acting.searching_pointing (f : SearchRun → SearchRun) (a : Acting) : (a.searching f).pointing = a.pointing := rfl
@[simp] theorem Acting.searching_search (f : SearchRun → SearchRun) (a : Acting) : (a.searching f).search = f a.search := rfl
@[simp] theorem Acting.searching_seq (f : SearchRun → SearchRun) (a : Acting) : (a.searching f).seq = a.seq := rfl
@[simp] theorem Acting.searching_lineWrites (f : SearchRun → SearchRun) (a : Acting) : (a.searching f).lineWrites = a.lineWrites := rfl
@[simp] theorem Acting.searching_out (f : SearchRun → SearchRun) (a : Acting) : (a.searching f).out = a.out := rfl

/-! ### One axis record -/

@[simp] theorem Acting.tune_axes (x : Axis) (f : AxisRun → AxisRun) (a : Acting) : (a.tune x f).axes = a.axes.set x (f (a.axes.get x)) := rfl
@[simp] theorem Acting.tune_pointing (x : Axis) (f : AxisRun → AxisRun) (a : Acting) : (a.tune x f).pointing = a.pointing := rfl
@[simp] theorem Acting.tune_search (x : Axis) (f : AxisRun → AxisRun) (a : Acting) : (a.tune x f).search = a.search := rfl
@[simp] theorem Acting.tune_seq (x : Axis) (f : AxisRun → AxisRun) (a : Acting) : (a.tune x f).seq = a.seq := rfl
@[simp] theorem Acting.tune_lineWrites (x : Axis) (f : AxisRun → AxisRun) (a : Acting) : (a.tune x f).lineWrites = a.lineWrites := rfl
@[simp] theorem Acting.tune_out (x : Axis) (f : AxisRun → AxisRun) (a : Acting) : (a.tune x f).out = a.out := rfl

/-! ### The output side -/

@[simp] theorem Acting.emit_axes (c : Ctx) (f : Tables → List Word → Output → Output) (a : Acting) : (a.emit c f).axes = a.axes := rfl
@[simp] theorem Acting.emit_pointing (c : Ctx) (f : Tables → List Word → Output → Output) (a : Acting) : (a.emit c f).pointing = a.pointing := rfl
@[simp] theorem Acting.emit_search (c : Ctx) (f : Tables → List Word → Output → Output) (a : Acting) : (a.emit c f).search = a.search := rfl
@[simp] theorem Acting.emit_seq (c : Ctx) (f : Tables → List Word → Output → Output) (a : Acting) : (a.emit c f).seq = a.seq := rfl
@[simp] theorem Acting.emit_lineWrites (c : Ctx) (f : Tables → List Word → Output → Output) (a : Acting) : (a.emit c f).lineWrites = a.lineWrites := rfl
@[simp] theorem Acting.emit_out (c : Ctx) (f : Tables → List Word → Output → Output) (a : Acting) : (a.emit c f).out = f c.tab (statusWords c a) a.out := rfl

/-! ### Events -/

@[simp] theorem Acting.raise_axes (c : Ctx) (k : EventKind) (ws : List Word) (a : Acting) : (a.raise c k ws).axes = a.axes := rfl
@[simp] theorem Acting.raise_pointing (c : Ctx) (k : EventKind) (ws : List Word) (a : Acting) : (a.raise c k ws).pointing = a.pointing := rfl
@[simp] theorem Acting.raise_search (c : Ctx) (k : EventKind) (ws : List Word) (a : Acting) : (a.raise c k ws).search = a.search := rfl
@[simp] theorem Acting.raise_seq (c : Ctx) (k : EventKind) (ws : List Word) (a : Acting) : (a.raise c k ws).seq = a.seq := rfl
@[simp] theorem Acting.raise_lineWrites (c : Ctx) (k : EventKind) (ws : List Word) (a : Acting) : (a.raise c k ws).lineWrites = a.lineWrites := rfl
@[simp] theorem Acting.raise_out (c : Ctx) (k : EventKind) (ws : List Word) (a : Acting) : (a.raise c k ws).out = a.out.raise c.tab (statusWords c a) k ws := rfl

/-! ### STATUS requests -/

@[simp] theorem Acting.requestStatus_axes (c : Ctx) (a : Acting) : (a.requestStatus c).axes = a.axes := rfl
@[simp] theorem Acting.requestStatus_pointing (c : Ctx) (a : Acting) : (a.requestStatus c).pointing = a.pointing := rfl
@[simp] theorem Acting.requestStatus_search (c : Ctx) (a : Acting) : (a.requestStatus c).search = a.search := rfl
@[simp] theorem Acting.requestStatus_seq (c : Ctx) (a : Acting) : (a.requestStatus c).seq = a.seq := rfl
@[simp] theorem Acting.requestStatus_lineWrites (c : Ctx) (a : Acting) : (a.requestStatus c).lineWrites = a.lineWrites := rfl
@[simp] theorem Acting.requestStatus_out (c : Ctx) (a : Acting) : (a.requestStatus c).out = a.out.requestStatus c.tab (statusWords c a) := rfl

/-! ### Replies -/

@[simp] theorem Acting.reply_axes (c : Ctx) (n : Node) (k : Kind) (r : Result) (ws : List Word) (a : Acting) : (a.reply c n k r ws).axes = a.axes := rfl
@[simp] theorem Acting.reply_pointing (c : Ctx) (n : Node) (k : Kind) (r : Result) (ws : List Word) (a : Acting) : (a.reply c n k r ws).pointing = a.pointing := rfl
@[simp] theorem Acting.reply_search (c : Ctx) (n : Node) (k : Kind) (r : Result) (ws : List Word) (a : Acting) : (a.reply c n k r ws).search = a.search := rfl
@[simp] theorem Acting.reply_seq (c : Ctx) (n : Node) (k : Kind) (r : Result) (ws : List Word) (a : Acting) : (a.reply c n k r ws).seq = a.seq := rfl
@[simp] theorem Acting.reply_lineWrites (c : Ctx) (n : Node) (k : Kind) (r : Result) (ws : List Word) (a : Acting) : (a.reply c n k r ws).lineWrites = a.lineWrites := rfl
@[simp] theorem Acting.reply_out (c : Ctx) (n : Node) (k : Kind) (r : Result) (ws : List Word) (a : Acting) : (a.reply c n k r ws).out = a.out.reply c.tab (statusWords c a) n k r ws := rfl

/-! ### The SEARCH_END event -/

@[simp] theorem Acting.searchEvent_axes (c : Ctx) (e : Ending) (r : Int) (l : Option Int) (a : Acting) : (a.searchEvent c e r l).axes = a.axes := rfl
@[simp] theorem Acting.searchEvent_pointing (c : Ctx) (e : Ending) (r : Int) (l : Option Int) (a : Acting) : (a.searchEvent c e r l).pointing = a.pointing := rfl
@[simp] theorem Acting.searchEvent_search (c : Ctx) (e : Ending) (r : Int) (l : Option Int) (a : Acting) : (a.searchEvent c e r l).search = a.search := rfl
@[simp] theorem Acting.searchEvent_seq (c : Ctx) (e : Ending) (r : Int) (l : Option Int) (a : Acting) : (a.searchEvent c e r l).seq = a.seq := rfl
@[simp] theorem Acting.searchEvent_lineWrites (c : Ctx) (e : Ending) (r : Int) (l : Option Int) (a : Acting) : (a.searchEvent c e r l).lineWrites = a.lineWrites := rfl

/-! ### The SEQUENCE_END event -/

@[simp] theorem Acting.sequenceEvent_axes (c : Ctx) (n : SequenceName) (e : Ending) (r : Int) (t : SequenceState) (a : Acting) : (a.sequenceEvent c n e r t).axes = a.axes := rfl
@[simp] theorem Acting.sequenceEvent_pointing (c : Ctx) (n : SequenceName) (e : Ending) (r : Int) (t : SequenceState) (a : Acting) : (a.sequenceEvent c n e r t).pointing = a.pointing := rfl
@[simp] theorem Acting.sequenceEvent_search (c : Ctx) (n : SequenceName) (e : Ending) (r : Int) (t : SequenceState) (a : Acting) : (a.sequenceEvent c n e r t).search = a.search := rfl
@[simp] theorem Acting.sequenceEvent_seq (c : Ctx) (n : SequenceName) (e : Ending) (r : Int) (t : SequenceState) (a : Acting) : (a.sequenceEvent c n e r t).seq = a.seq := rfl
@[simp] theorem Acting.sequenceEvent_lineWrites (c : Ctx) (n : SequenceName) (e : Ending) (r : Int) (t : SequenceState) (a : Acting) : (a.sequenceEvent c n e r t).lineWrites = a.lineWrites := rfl

/-! ### The AXIS_FAULT event -/

@[simp] theorem Acting.faultEvent_axes (c : Ctx) (x : Axis) (k : FaultCause) (a : Acting) : (a.faultEvent c x k).axes = a.axes := rfl
@[simp] theorem Acting.faultEvent_pointing (c : Ctx) (x : Axis) (k : FaultCause) (a : Acting) : (a.faultEvent c x k).pointing = a.pointing := rfl
@[simp] theorem Acting.faultEvent_search (c : Ctx) (x : Axis) (k : FaultCause) (a : Acting) : (a.faultEvent c x k).search = a.search := rfl
@[simp] theorem Acting.faultEvent_seq (c : Ctx) (x : Axis) (k : FaultCause) (a : Acting) : (a.faultEvent c x k).seq = a.seq := rfl
@[simp] theorem Acting.faultEvent_lineWrites (c : Ctx) (x : Axis) (k : FaultCause) (a : Acting) : (a.faultEvent c x k).lineWrites = a.lineWrites := rfl

/-! ### An axis enters a state -/

@[simp] theorem AxisRun.enter_state (st : AxisState) (r : AxisRun) : (r.enter st).state = st := rfl
@[simp] theorem AxisRun.enter_owner (st : AxisState) (r : AxisRun) : (r.enter st).owner = r.owner := rfl
@[simp] theorem AxisRun.enter_goal (st : AxisState) (r : AxisRun) : (r.enter st).goal = if st.holdsGoal then r.goal else none := rfl
@[simp] theorem AxisRun.enter_vPrev (st : AxisState) (r : AxisRun) : (r.enter st).vPrev = r.vPrev := rfl
@[simp] theorem AxisRun.enter_settle (st : AxisState) (r : AxisRun) : (r.enter st).settle = r.settle := rfl
@[simp] theorem AxisRun.enter_jog (st : AxisState) (r : AxisRun) : (r.enter st).jog = if st = .jogging then r.jog else none := rfl
@[simp] theorem AxisRun.enter_jogTimer (st : AxisState) (r : AxisRun) : (r.enter st).jogTimer = if st = .jogging then r.jogTimer else none := rfl
@[simp] theorem AxisRun.enter_stallTimer (st : AxisState) (r : AxisRun) : (r.enter st).stallTimer = if st = r.state ∨ (st.runs && r.state.runs) then r.stallTimer else none := rfl
@[simp] theorem AxisRun.enter_stallPos (st : AxisState) (r : AxisRun) : (r.enter st).stallPos = r.stallPos := rfl
@[simp] theorem AxisRun.enter_drive (st : AxisState) (r : AxisRun) : (r.enter st).drive = r.drive := rfl
@[simp] theorem AxisRun.enter_driveCause (st : AxisState) (r : AxisRun) : (r.enter st).driveCause = r.driveCause := rfl
@[simp] theorem AxisRun.enter_driveAge (st : AxisState) (r : AxisRun) : (r.enter st).driveAge = r.driveAge := rfl
@[simp] theorem AxisRun.enter_faultCause (st : AxisState) (r : AxisRun) : (r.enter st).faultCause = if st = .fault then r.faultCause else .none := rfl
@[simp] theorem AxisRun.enter_updateTimer (st : AxisState) (r : AxisRun) : (r.enter st).updateTimer = r.updateTimer := rfl

/-! ### An immediate zero -/

@[simp] theorem AxisRun.zeroed_state (r : AxisRun) : (r.zeroed).state = r.state := rfl
@[simp] theorem AxisRun.zeroed_owner (r : AxisRun) : (r.zeroed).owner = r.owner := rfl
@[simp] theorem AxisRun.zeroed_goal (r : AxisRun) : (r.zeroed).goal = r.goal := rfl
@[simp] theorem AxisRun.zeroed_vPrev (r : AxisRun) : (r.zeroed).vPrev = 0 := rfl
@[simp] theorem AxisRun.zeroed_settle (r : AxisRun) : (r.zeroed).settle = r.settle := rfl
@[simp] theorem AxisRun.zeroed_jog (r : AxisRun) : (r.zeroed).jog = r.jog := rfl
@[simp] theorem AxisRun.zeroed_jogTimer (r : AxisRun) : (r.zeroed).jogTimer = r.jogTimer := rfl
@[simp] theorem AxisRun.zeroed_stallTimer (r : AxisRun) : (r.zeroed).stallTimer = none := rfl
@[simp] theorem AxisRun.zeroed_stallPos (r : AxisRun) : (r.zeroed).stallPos = r.stallPos := rfl
@[simp] theorem AxisRun.zeroed_drive (r : AxisRun) : (r.zeroed).drive = r.drive := rfl
@[simp] theorem AxisRun.zeroed_driveCause (r : AxisRun) : (r.zeroed).driveCause = r.driveCause := rfl
@[simp] theorem AxisRun.zeroed_driveAge (r : AxisRun) : (r.zeroed).driveAge = r.driveAge := rfl
@[simp] theorem AxisRun.zeroed_faultCause (r : AxisRun) : (r.zeroed).faultCause = r.faultCause := rfl
@[simp] theorem AxisRun.zeroed_updateTimer (r : AxisRun) : (r.zeroed).updateTimer = r.updateTimer := rfl

/-! ### The events-seen set -/

@[simp] theorem Output.see_urgent (k : EventKind) (o : Output) : (o.see k).urgent = o.urgent := rfl
@[simp] theorem Output.see_routine (k : EventKind) (o : Output) : (o.see k).routine = o.routine := rfl
@[simp] theorem Output.see_driveQueue (k : EventKind) (o : Output) : (o.see k).driveQueue = o.driveQueue := rfl
@[simp] theorem Output.see_sensorQueue (k : EventKind) (o : Output) : (o.see k).sensorQueue = o.sensorQueue := rfl
@[simp] theorem Output.see_tx (k : EventKind) (o : Output) : (o.see k).tx = o.tx := rfl
@[simp] theorem Output.see_counters (k : EventKind) (o : Output) : (o.see k).counters = o.counters := rfl
@[simp] theorem Output.see_dropA (k : EventKind) (o : Output) : (o.see k).dropA = o.dropA := rfl
@[simp] theorem Output.see_dropB (k : EventKind) (o : Output) : (o.see k).dropB = o.dropB := rfl
@[simp] theorem Output.see_seen (k : EventKind) (o : Output) : (o.see k).seen = o.seen ||| eventBit k := rfl
@[simp] theorem Output.see_statusTimer (k : EventKind) (o : Output) : (o.see k).statusTimer = o.statusTimer := rfl

/-! ### A transmission begins -/

@[simp] theorem Output.transmit_urgent (p : Port) (f : Frame) (o : Output) : (o.transmit p f).urgent = o.urgent := rfl
@[simp] theorem Output.transmit_routine (p : Port) (f : Frame) (o : Output) : (o.transmit p f).routine = o.routine := rfl
@[simp] theorem Output.transmit_driveQueue (p : Port) (f : Frame) (o : Output) : (o.transmit p f).driveQueue = o.driveQueue := rfl
@[simp] theorem Output.transmit_sensorQueue (p : Port) (f : Frame) (o : Output) : (o.transmit p f).sensorQueue = o.sensorQueue := rfl
@[simp] theorem Output.transmit_tx (p : Port) (f : Frame) (o : Output) : (o.transmit p f).tx = o.tx.set p (some { frame := f, left := frameTime f }) := rfl
@[simp] theorem Output.transmit_counters (p : Port) (f : Frame) (o : Output) : (o.transmit p f).counters = o.counters := rfl
@[simp] theorem Output.transmit_dropA (p : Port) (f : Frame) (o : Output) : (o.transmit p f).dropA = o.dropA := rfl
@[simp] theorem Output.transmit_dropB (p : Port) (f : Frame) (o : Output) : (o.transmit p f).dropB = o.dropB := rfl
@[simp] theorem Output.transmit_seen (p : Port) (f : Frame) (o : Output) : (o.transmit p f).seen = o.seen := rfl
@[simp] theorem Output.transmit_statusTimer (p : Port) (f : Frame) (o : Output) : (o.transmit p f).statusTimer = o.statusTimer := rfl

/-! ### Frames received -/

@[simp] theorem Output.countReceived_urgent (p : Port) (o : Output) : (o.countReceived p).urgent = o.urgent := rfl
@[simp] theorem Output.countReceived_routine (p : Port) (o : Output) : (o.countReceived p).routine = o.routine := rfl
@[simp] theorem Output.countReceived_driveQueue (p : Port) (o : Output) : (o.countReceived p).driveQueue = o.driveQueue := rfl
@[simp] theorem Output.countReceived_sensorQueue (p : Port) (o : Output) : (o.countReceived p).sensorQueue = o.sensorQueue := rfl
@[simp] theorem Output.countReceived_tx (p : Port) (o : Output) : (o.countReceived p).tx = o.tx := rfl
@[simp] theorem Output.countReceived_dropA (p : Port) (o : Output) : (o.countReceived p).dropA = o.dropA := rfl
@[simp] theorem Output.countReceived_dropB (p : Port) (o : Output) : (o.countReceived p).dropB = o.dropB := rfl
@[simp] theorem Output.countReceived_seen (p : Port) (o : Output) : (o.countReceived p).seen = o.seen := rfl
@[simp] theorem Output.countReceived_statusTimer (p : Port) (o : Output) : (o.countReceived p).statusTimer = o.statusTimer := rfl

/-! ### Frames sent -/

@[simp] theorem Output.countSent_urgent (p : Port) (o : Output) : (o.countSent p).urgent = o.urgent := rfl
@[simp] theorem Output.countSent_routine (p : Port) (o : Output) : (o.countSent p).routine = o.routine := rfl
@[simp] theorem Output.countSent_driveQueue (p : Port) (o : Output) : (o.countSent p).driveQueue = o.driveQueue := rfl
@[simp] theorem Output.countSent_sensorQueue (p : Port) (o : Output) : (o.countSent p).sensorQueue = o.sensorQueue := rfl
@[simp] theorem Output.countSent_tx (p : Port) (o : Output) : (o.countSent p).tx = o.tx := rfl
@[simp] theorem Output.countSent_dropA (p : Port) (o : Output) : (o.countSent p).dropA = o.dropA := rfl
@[simp] theorem Output.countSent_dropB (p : Port) (o : Output) : (o.countSent p).dropB = o.dropB := rfl
@[simp] theorem Output.countSent_seen (p : Port) (o : Output) : (o.countSent p).seen = o.seen := rfl
@[simp] theorem Output.countSent_statusTimer (p : Port) (o : Output) : (o.countSent p).statusTimer = o.statusTimer := rfl

/-! ### A DEMAND withdrawn -/

@[simp] theorem Output.withdrawDemand_urgent (x : Axis) (o : Output) : (o.withdrawDemand x).urgent = o.urgent := rfl
@[simp] theorem Output.withdrawDemand_routine (x : Axis) (o : Output) : (o.withdrawDemand x).routine = o.routine := rfl
@[simp] theorem Output.withdrawDemand_sensorQueue (x : Axis) (o : Output) : (o.withdrawDemand x).sensorQueue = o.sensorQueue := rfl
@[simp] theorem Output.withdrawDemand_tx (x : Axis) (o : Output) : (o.withdrawDemand x).tx = o.tx := rfl
@[simp] theorem Output.withdrawDemand_counters (x : Axis) (o : Output) : (o.withdrawDemand x).counters = o.counters := rfl
@[simp] theorem Output.withdrawDemand_dropA (x : Axis) (o : Output) : (o.withdrawDemand x).dropA = o.dropA := rfl
@[simp] theorem Output.withdrawDemand_dropB (x : Axis) (o : Output) : (o.withdrawDemand x).dropB = o.dropB := rfl
@[simp] theorem Output.withdrawDemand_seen (x : Axis) (o : Output) : (o.withdrawDemand x).seen = o.seen := rfl
@[simp] theorem Output.withdrawDemand_statusTimer (x : Axis) (o : Output) : (o.withdrawDemand x).statusTimer = o.statusTimer := rfl

/-! ### The line set as an event forms it -/

@[simp] theorem Acting.formLines_axes (c : Ctx) (a : Acting) : (a.formLines c).axes = a.axes := by
  unfold Acting.formLines; dsimp only; split <;> rfl
@[simp] theorem Acting.formLines_pointing (c : Ctx) (a : Acting) : (a.formLines c).pointing = a.pointing := by
  unfold Acting.formLines; dsimp only; split <;> rfl
@[simp] theorem Acting.formLines_search (c : Ctx) (a : Acting) : (a.formLines c).search = a.search := by
  unfold Acting.formLines; dsimp only; split <;> rfl
@[simp] theorem Acting.formLines_seq (c : Ctx) (a : Acting) : (a.formLines c).seq = a.seq := by
  unfold Acting.formLines; dsimp only; split <;> rfl
@[simp] theorem Acting.formLines_out (c : Ctx) (a : Acting) : (a.formLines c).out = a.out := by
  unfold Acting.formLines; dsimp only; split <;> rfl
@[simp] theorem Part.formLines_tab (p : Part) : p.formLines.tab = p.tab := rfl
@[simp] theorem Part.formLines_sen (p : Part) : p.formLines.sen = p.sen := rfl
@[simp] theorem Part.formLines_act (p : Part) : p.formLines.act = p.act.formLines p.ctx := rfl

/-! ### The one change of axis records -/

@[simp] theorem Acting.setAxes_axes (c : Ctx) (t : PerAxis AxisRun) (a : Acting) : (a.setAxes c t).axes = t := by
  simp only [Acting.setAxes, axisList, List.foldl, formLines_axes]; rfl
@[simp] theorem Acting.setAxes_pointing (c : Ctx) (t : PerAxis AxisRun) (a : Acting) :
    (a.setAxes c t).pointing = a.pointing := by
  simp only [Acting.setAxes, axisList, List.foldl, formLines_pointing]
@[simp] theorem Acting.setAxes_search (c : Ctx) (t : PerAxis AxisRun) (a : Acting) :
    (a.setAxes c t).search = a.search := by
  simp only [Acting.setAxes, axisList, List.foldl, formLines_search]
@[simp] theorem Acting.setAxes_seq (c : Ctx) (t : PerAxis AxisRun) (a : Acting) : (a.setAxes c t).seq = a.seq := by
  simp only [Acting.setAxes, axisList, List.foldl, formLines_seq]
@[simp] theorem Acting.setAxes_out (c : Ctx) (t : PerAxis AxisRun) (a : Acting) : (a.setAxes c t).out = a.out := by
  simp only [Acting.setAxes, axisList, List.foldl, formLines_out]

/-! ### DEMANDs and STATUS requests of a change -/

@[simp] theorem Acting.sendDemands_axes (c : Ctx) (rate : Axis → Option Int) (a : Acting) : (a.sendDemands c rate).axes = a.axes := by
  simp only [Acting.sendDemands, axisList, List.foldl]; repeat' split
  all_goals rfl
@[simp] theorem Acting.sendDemands_pointing (c : Ctx) (rate : Axis → Option Int) (a : Acting) : (a.sendDemands c rate).pointing = a.pointing := by
  simp only [Acting.sendDemands, axisList, List.foldl]; repeat' split
  all_goals rfl
@[simp] theorem Acting.sendDemands_search (c : Ctx) (rate : Axis → Option Int) (a : Acting) : (a.sendDemands c rate).search = a.search := by
  simp only [Acting.sendDemands, axisList, List.foldl]; repeat' split
  all_goals rfl
@[simp] theorem Acting.sendDemands_seq (c : Ctx) (rate : Axis → Option Int) (a : Acting) : (a.sendDemands c rate).seq = a.seq := by
  simp only [Acting.sendDemands, axisList, List.foldl]; repeat' split
  all_goals rfl
@[simp] theorem Acting.sendDemands_lineWrites (c : Ctx) (rate : Axis → Option Int) (a : Acting) : (a.sendDemands c rate).lineWrites = a.lineWrites := by
  simp only [Acting.sendDemands, axisList, List.foldl]; repeat' split
  all_goals rfl
@[simp] theorem Acting.reportAxes_axes (c : Ctx) (old : PerAxis AxisRun) (a : Acting) : (a.reportAxes c old).axes = a.axes := by
  simp only [Acting.reportAxes, axisList, List.foldl]; repeat' split
  all_goals rfl
@[simp] theorem Acting.reportAxes_pointing (c : Ctx) (old : PerAxis AxisRun) (a : Acting) : (a.reportAxes c old).pointing = a.pointing := by
  simp only [Acting.reportAxes, axisList, List.foldl]; repeat' split
  all_goals rfl
@[simp] theorem Acting.reportAxes_search (c : Ctx) (old : PerAxis AxisRun) (a : Acting) : (a.reportAxes c old).search = a.search := by
  simp only [Acting.reportAxes, axisList, List.foldl]; repeat' split
  all_goals rfl
@[simp] theorem Acting.reportAxes_seq (c : Ctx) (old : PerAxis AxisRun) (a : Acting) : (a.reportAxes c old).seq = a.seq := by
  simp only [Acting.reportAxes, axisList, List.foldl]; repeat' split
  all_goals rfl
@[simp] theorem Acting.reportAxes_lineWrites (c : Ctx) (old : PerAxis AxisRun) (a : Acting) : (a.reportAxes c old).lineWrites = a.lineWrites := by
  simp only [Acting.reportAxes, axisList, List.foldl]; repeat' split
  all_goals rfl

/-! ### A change of axis records, as a whole -/

@[simp] theorem Acting.shift_axes (c : Ctx) (rate : Axis → Option Int) (f : Axis → AxisRun → AxisRun) (a : Acting) :
    (a.shift c rate f).axes = ⟨f .mast a.axes.mast, f .pan a.axes.pan, f .tilt a.axes.tilt⟩ := by
  simp only [Acting.shift, reportAxes_axes, sendDemands_axes, setAxes_axes]
@[simp] theorem Acting.shift_search (c : Ctx) (rate : Axis → Option Int) (f : Axis → AxisRun → AxisRun) (a : Acting) : (a.shift c rate f).search = a.search := by
  simp only [Acting.shift, reportAxes_search, sendDemands_search, setAxes_search]
@[simp] theorem Acting.shift_seq (c : Ctx) (rate : Axis → Option Int) (f : Axis → AxisRun → AxisRun) (a : Acting) : (a.shift c rate f).seq = a.seq := by
  simp only [Acting.shift, reportAxes_seq, sendDemands_seq, setAxes_seq]
@[simp] theorem Acting.shift_pointing (c : Ctx) (rate : Axis → Option Int) (f : Axis → AxisRun → AxisRun) (a : Acting) :
    (a.shift c rate f).pointing = a.pointing.watch ⟨f .mast a.axes.mast, f .pan a.axes.pan, f .tilt a.axes.tilt⟩ := by
  simp only [Acting.shift, reportAxes_pointing, sendDemands_pointing]

end Sys2Proof.Machine
end

