-- ==== Sys2Proof/Laws/Reach.lean ====
section
/-! SUPPORT. What an acting function can do, said once: `AxisRun.Moved` lists every change of an axis
record, with the DEMAND it sends, and `Acting.Reach` every change of the acting side that axis control,
the search, pointing and the sequencer make. One lemma for each function says that it stays within
`Reach`, so that a law is shown for all of them by showing it for the constructors. -/

namespace Sys2Proof.Machine

/-! ### One axis record -/

/-- The DEMAND of an immediate zero (R77). -/
def zeroRate (c : Ctx) : Option Int := if c.operating then some 0 else none

/-- R67, R115: what a claim finds of an axis: a fresh position, which its checks ask for, or, at a search's own
next probe, an axis that stands AT_GOAL. -/
abbrev AxisRun.Claimable (c : Ctx) (x : Axis) (r : AxisRun) : Prop :=
  c.posFresh x = true ∨ r.state = .atGoal

/-- The changes of an axis record, with the rate of the DEMAND each sends, if any. -/
inductive AxisRun.Moved (c : Ctx) (x : Axis) : AxisRun → AxisRun → Option Int → Prop
  | same (r : AxisRun) : Moved c x r r none
  | claimed (o : Owner) (g : Int) (r : AxisRun) (ho : o = .search ∨ o = .aim ∨ o = .safety) (hf : r.Claimable c x) :
      Moved c x r (r.claimed (c.tab.motion.get x) o g) none
  | jogged (rate : Int) (r : AxisRun) (hf : r.Claimable c x) :
      Moved c x r (r.jogged (c.tab.motion.get x) c.tab.pointing rate) none
  | released (r : AxisRun) (h : r.owner = .search ∨ r.owner = .safety) : Moved c x r r.released none
  | stopped (r : AxisRun) : Moved c x r r.stoppedBy none
  | cleared (r : AxisRun) (h : r.state = .fault) : Moved c x r r.cleared none
  | cutOff (r : AxisRun) : Moved c x r r.cutOff (zeroRate c)
  | held (r : AxisRun) : Moved c x r r.held (zeroRate c)
  | faulted (cause : FaultCause) (r : AxisRun) (h : cause ≠ .none) : Moved c x r (r.faulted cause) (zeroRate c)
  | zeroed (r : AxisRun) : Moved c x r r.zeroed (zeroRate c)
  | started (r : AxisRun) : Moved c x r (r.started (c.tab.motion.get x) (c.tab.guard.get x)) (zeroRate c)
  | servo (r : AxisRun) : Moved c x r (r.servo c x) (some (r.servo c x).vPrev)

/-- Two records that differ in nothing that the laws of motion speak of: timers, drive state and stall
position may differ. -/
structure AxisRun.SameMotion (r r' : AxisRun) : Prop where
  state : r'.state = r.state
  owner : r'.owner = r.owner
  goal : r'.goal = r.goal
  vPrev : r'.vPrev = r.vPrev
  settle : r'.settle = r.settle
  jog : r'.jog = r.jog
  faultCause : r'.faultCause = r.faultCause

/-! ### The acting side -/

/-- The changes of the acting side. -/
inductive Acting.Reach (c : Ctx) : Acting → Acting → Prop
  | refl (a : Acting) : Reach c a a
  | trans {a b d : Acting} (h₁ : Reach c a b) (h₂ : Reach c b d) : Reach c a d
  | shift (a : Acting) (rate : Axis → Option Int) (f : Axis → AxisRun → AxisRun)
      (h : ∀ x, AxisRun.Moved c x (a.axes.get x) (f x (a.axes.get x)) (rate x)) : Reach c a (a.shift c rate f)
  | tune (a : Acting) (x : Axis) (f : AxisRun → AxisRun)
      (h : AxisRun.SameMotion (a.axes.get x) (f (a.axes.get x))) : Reach c a (a.tune x f)
  | search (a : Acting) (s : SearchRun) : Reach c a { a with search := s }
  | seq (a : Acting) (q : SequencerRun) : Reach c a { a with seq := q }
  | pointing (a : Acting) (p : PointingRun) : Reach c a { a with pointing := p }
  | raise (a : Acting) (k : EventKind) (ws : List Word) : Reach c a (a.raise c k ws)
  | status (a : Acting) : Reach c a (a.requestStatus c)
  | reply (a : Acting) (n : Node) (k : Kind) (r : Result) (ws : List Word) : Reach c a (a.reply c n k r ws)

namespace Acting.Reach

variable {c : Ctx} {a b : Acting}

/-- A law that every constructor keeps is kept. -/
theorem keeps {P : Acting → Prop} (h : Reach c a b) (h0 : P a)
    (shift : ∀ a rate f, (∀ x, AxisRun.Moved c x (a.axes.get x) (f x (a.axes.get x)) (rate x)) → P a →
      P (a.shift c rate f))
    (tune : ∀ a x f, AxisRun.SameMotion (a.axes.get x) (f (a.axes.get x)) → P a → P (a.tune x f))
    (search : ∀ a s, P a → P { a with search := s })
    (seq : ∀ a q, P a → P { a with seq := q })
    (pointing : ∀ a p, P a → P { a with pointing := p })
    (raise : ∀ a k ws, P a → P (a.raise c k ws))
    (status : ∀ a, P a → P (a.requestStatus c))
    (reply : ∀ a n k r ws, P a → P (a.reply c n k r ws)) : P b := by
  induction h with
  | refl a => exact h0
  | trans _ _ ih₁ ih₂ => exact ih₂ (ih₁ h0)
  | shift a rate f hm => exact shift a rate f hm h0
  | tune a x f hm => exact tune a x f hm h0
  | search a s => exact search a s h0
  | seq a q => exact seq a q h0
  | pointing a p => exact pointing a p h0
  | raise a k ws => exact raise a k ws h0
  | status a => exact status a h0
  | reply a n k r ws => exact reply a n k r ws h0

/-! ### Axis control -/

theorem shiftQuiet (a : Acting) (f : Axis → AxisRun → AxisRun)
    (h : ∀ x, AxisRun.Moved c x (a.axes.get x) (f x (a.axes.get x)) none) : Reach c a (a.shiftQuiet c f) :=
  .shift a _ f h

theorem claim (a : Acting) (o : Owner) (goal : Axis → Option Int) (ho : o = .search ∨ o = .aim ∨ o = .safety)
    (hf : ∀ x, (goal x).isSome = true → (a.axes.get x).Claimable c x) : Reach c a (a.claim c o goal) := by
  refine shiftQuiet a _ fun x => ?_
  split
  case h_1 g e => exact .claimed o _ _ ho (hf x (by rw [e]; rfl))
  case h_2 => exact .same _

/-- A claim that passes its checks finds a fresh position. -/
theorem claimCheck_fresh {o : Owner} {x : Axis} {r : AxisRun} (h : claimCheck c o x r = none) : c.posFresh x = true := by
  unfold claimCheck at h
  repeat' split at h
  all_goals cases h
  next h' => simpa using h'

theorem claimChecks_fresh {o : Owner} {named : Axis → Bool} (h : claimChecks c o named a = none) (x : Axis)
    (hx : named x = true) : c.posFresh x = true := by
  have hall := List.findSome?_eq_none_iff.1 h x (by cases x <;> decide)
  rw [if_pos hx] at hall
  exact claimCheck_fresh hall

/-- Pan and tilt, standing still, may be claimed by the search. -/
theorem claim_still {g : PanTilt} (h : a.dishStill = true) (x : Axis) (hx : (g.goals x).isSome = true) :
    (a.axes.get x).Claimable c x := by
  simp only [Acting.dishStill, Bool.and_eq_true, decide_eq_true_eq] at h
  cases x
  · simp [PanTilt.goals] at hx
  · exact .inr h.1
  · exact .inr h.2

theorem release (a : Acting) (o : Owner) (ho : o = .search ∨ o = .safety) : Reach c a (a.release c o) := by
  refine shiftQuiet a _ fun x => ?_
  split
  case isTrue h => exact .released _ (h ▸ ho)
  case isFalse => exact .same _

theorem searching (a : Acting) (f : SearchRun → SearchRun) : Reach c a (a.searching f) := .search a _

/-! ### The search -/

theorem searchEvent (a : Acting) (e : Ending) (r : Int) (l : Option Int) : Reach c a (a.searchEvent c e r l) :=
  .raise a _ _

theorem endSearch (a : Acting) (st : SearchState) (r : FailureReason) (e : Ending) : Reach c a (a.endSearch c st r e) :=
  .trans (.trans (searching a _) (release _ _ (.inl rfl))) (searchEvent _ _ _ _)

theorem abortSearch (a : Acting) : Reach c a (a.abortSearch c) := by
  unfold Acting.abortSearch; split
  · exact endSearch _ _ _ _
  · exact .refl a

theorem failSearch (a : Acting) (r : FailureReason) : Reach c a (a.failSearch c r) := by
  unfold Acting.failSearch; split
  · exact endSearch _ _ _ _
  · exact .refl a

theorem peakOrFail (a : Acting) : Reach c a (a.peakOrFail c) := by
  unfold Acting.peakOrFail
  split
  · split
    · exact searching a _
    · exact failSearch a _
  · exact failSearch a _

theorem returnCheck (a : Acting) : Reach c a (a.returnCheck c) := by
  unfold Acting.returnCheck; split
  · exact peakOrFail a
  · exact .refl a

theorem resumeSearch (a : Acting) : Reach c a (a.resumeSearch c) := by
  unfold Acting.resumeSearch; split
  · exact searching a _
  · exact .trans (searching a _) (returnCheck _)

theorem enterCause (a : Acting) (f : SuspendCauses → SuspendCauses) : Reach c a (a.enterCause c f) := searching a _

theorem leaveCause (a : Acting) (f : SuspendCauses → SuspendCauses) : Reach c a (a.leaveCause c f) := by
  unfold Acting.leaveCause; split
  · dsimp only
    split
    · exact .trans (searching a _) (resumeSearch _)
    · exact searching a _
  · exact .refl a

theorem makeProbe (a : Acting) (g : PanTilt) (h : a.dishStill = true) : Reach c a (a.makeProbe c g) := by
  unfold Acting.makeProbe
  dsimp only
  split
  · exact .trans (searching a _) (failSearch _ _)
  · exact .trans (.trans (searching a _) (claim _ _ _ (.inl rfl) (claim_still h))) (searching _ _)

theorem goBack (a : Acting) (h : a.dishStill = true) : Reach c a (a.goBack c) :=
  .trans (.trans (claim a _ _ (.inl rfl) (claim_still h)) (searching _ _)) (returnCheck _)

theorem nextProbe (a : Acting) (h : a.dishStill = true) : Reach c a (a.nextProbe c) := by
  unfold Acting.nextProbe
  dsimp only
  split
  · exact .trans (.search a _) (makeProbe _ _ h)
  · exact .trans (.search a _) (goBack _ h)

theorem judge (a : Acting) (m : Int) (h : a.dishStill = true) : Reach c a (a.judge c m) := by
  unfold Acting.judge
  dsimp only
  split
  · exact .trans (.search a _) (nextProbe _ h)
  · split
    · exact .trans (.search a _) (nextProbe _ h)
    · exact .trans (.search a _) (goBack _ h)

theorem measured (a : Acting) (m : Int) (h : a.dishStill = true) : Reach c a (a.measured c m) := by
  unfold Acting.measured
  dsimp only
  split
  · exact .trans (.trans (searching a _) (searching _ _)) (nextProbe _ h)
  · exact .trans (searching a _) (judge _ _ h)
  · exact searching a _

theorem drift (a : Acting) (m : Int) (h : a.dishStill = true) : Reach c a (a.drift c m) :=
  .trans (searching a _) (nextProbe _ h)

theorem ringLevel (a : Acting) (v : Int) (h : a.dishStill = true) : Reach c a (a.ringLevel c v) := by
  unfold Acting.ringLevel
  dsimp only
  split
  · exact .trans (searching a _) (drift _ _ h)
  · exact searching a _

theorem bufferLevel (a : Acting) (v : Int) (h : a.dishStill = true) : Reach c a (a.bufferLevel c v) := by
  unfold Acting.bufferLevel
  dsimp only
  split
  · exact measured a _ h
  · exact searching a _

theorem searchLevel (a : Acting) (v : Int) : Reach c a (a.searchLevel c v) := by
  unfold Acting.searchLevel
  split
  · split
    next h => exact bufferLevel a v h.2
    · exact .refl a
  · split
    next h => exact ringLevel a v h
    · exact .refl a
  · exact leaveCause a _
  all_goals exact .refl a

theorem ite {p : Prop} [Decidable p] {a b : Acting} (h : Reach c a b) : Reach c a (if p then b else a) := by
  split
  · exact h
  · exact .refl a

theorem searchSeesAxes (a : Acting) (old : PerAxis AxisRun) : Reach c a (a.searchSeesAxes c old) := by
  unfold Acting.searchSeesAxes
  dsimp only
  refine .trans ?_ (returnCheck _)
  refine .trans ?_ (ite (leaveCause _ _))
  refine .trans ?_ (ite (leaveCause _ _))
  refine .trans ?_ (ite (enterCause _ _))
  refine .trans ?_ (ite (enterCause _ _))
  exact ite (searching _ _)

theorem searchSeesPermit (a : Acting) (old : BitVec 7) : Reach c a (a.searchSeesPermit c old) := by
  unfold Acting.searchSeesPermit
  dsimp only
  split
  · exact enterCause a _
  · split
    · exact leaveCause a _
    · exact .refl a

theorem beginSearch (a : Acting) (h : ∀ x, isDish x = true → c.posFresh x = true) : Reach c a (a.beginSearch c) := by
  have hf : ∀ (g : PanTilt) x, (g.goals x).isSome = true → (a.axes.get x).Claimable c x := by
    intro g x hx
    cases x
    · simp [PanTilt.goals] at hx
    · exact .inl (h .pan rfl)
    · exact .inl (h .tilt rfl)
  unfold Acting.beginSearch
  dsimp only
  split
  · exact .trans (.trans (claim a _ _ (.inl rfl) (hf _)) (searching _ _)) (enterCause _ _)
  · exact .trans (claim a _ _ (.inl rfl) (hf _)) (searching _ _)

/-- A start that passes R110 finds the positions of pan and tilt fresh. -/
theorem searchChecks_fresh {n : Node} (h : searchChecks c n a = none) (x : Axis) (hx : isDish x = true) :
    c.posFresh x = true := by
  unfold searchChecks at h
  repeat' split at h
  all_goals cases h
  all_goals exact claimChecks_fresh (by assumption) x hx

theorem startSearch (a : Acting) (n : Node) : Reach c a (a.startSearch c n).1 := by
  unfold Acting.startSearch
  dsimp only
  split
  · exact searching a _
  next h => exact .trans (searching a _) (beginSearch _ (searchChecks_fresh h))

theorem searchAfter (a : Acting) : Reach c a (a.searchAfter c) := by
  unfold Acting.searchAfter
  split
  · exact .refl a
  · split
    · dsimp only
      split
      · exact .trans (.pointing a _) (startSearch _ _)
      · exact .trans (.pointing a _) (startSearch _ _)
      · exact .trans (.trans (.pointing a _) (startSearch _ _)) (searchEvent _ _ _ _)
    · exact .refl a

/-! ### The sequencer -/

theorem sequenceEvent (a : Acting) (n : SequenceName) (e : Ending) (r : Int) (t : SequenceState) :
    Reach c a (a.sequenceEvent c n e r t) := .raise a _ _

theorem partAxes (a : Acting) (how : Parting) : Reach c a (a.partAxes c how) := by
  unfold Acting.partAxes
  split
  · exact release a _ (.inr rfl)
  · refine shiftQuiet a _ fun x => ?_
    split
    · exact .stopped _
    · exact .same _
  · exact .refl a

theorem lowerEnds (a : Acting) (was : SequenceState) : Reach c a (a.lowerEnds c was) := ite (leaveCause a _)

theorem endSequence (a : Acting) (e : Ending) (r : SequenceReason) (how : Parting) : Reach c a (a.endSequence c e r how) :=
  .trans (.trans (.trans (.trans (.seq a _) (partAxes _ _)) (lowerEnds _ _)) (.seq _ _)) (sequenceEvent _ _ _ _ _)

theorem abortSequence (a : Acting) : Reach c a (a.abortSequence c) := ite (endSequence a _ _ _)

theorem faultSequence (a : Acting) : Reach c a (a.faultSequence c) := ite (endSequence a _ _ _)

theorem timeoutSequence (a : Acting) : Reach c a (a.timeoutSequence c) := ite (endSequence a _ _ _)

theorem finishStow (a : Acting) : Reach c a (a.finishStow c) := endSequence a _ _ _

theorem enterPhase (a : Acting) (st : SequenceState) (x : Axis) (done : Acting → Acting)
    (hd : ∀ a, Reach c a (done a)) : Reach c a (a.enterPhase c st x done) := by
  unfold Acting.enterPhase
  dsimp only
  split
  · exact .trans (.seq a _) (endSequence _ _ _ _)
  next h =>
    have hf : ∀ (g : Int) y, (goalFor x g y).isSome = true → (a.axes.get y).Claimable c y := by
      intro g y hy
      unfold goalFor at hy
      split at hy
      next e => subst e; exact .inl (claimCheck_fresh (Option.not_isSome_iff_eq_none.1 h))
      next => simp at hy
    split
    · refine .trans (.trans (.seq a _) (claim _ _ _ (.inr (.inr rfl)) ?_)) (hd _)
      exact hf _
    · refine .trans (.seq a _) (claim _ _ _ (.inr (.inr rfl)) ?_)
      exact hf _

theorem enterStowMast (a : Acting) : Reach c a (a.enterStowMast c) := enterPhase a _ _ _ finishStow

theorem enterStowPan (a : Acting) : Reach c a (a.enterStowPan c) := enterPhase a _ _ _ enterStowMast

theorem lowerGivesWay (a : Acting) : Reach c a (a.lowerGivesWay c) := ite (endSequence a _ _ _)

theorem startStow (a : Acting) (h : ∀ x, c.posFresh x = true) : Reach c a (a.startStow c) := by
  unfold Acting.startStow
  dsimp only
  split
  · exact .trans (.trans (.trans (.trans (claim a _ _ (.inr (.inr rfl)) fun x _ => .inl (h x)) (abortSearch _)) (lowerGivesWay _))
      (.seq _ _)) (enterStowPan _)
  · exact .trans (.trans (.trans (claim a _ _ (.inr (.inr rfl)) fun x _ => .inl (h x)) (abortSearch _)) (lowerGivesWay _))
      (.seq _ _)

theorem stowFrame (a : Acting) : Reach c a (a.stowFrame c).1 := by
  unfold Acting.stowFrame
  split
  · exact .refl a
  · split
    · exact .refl a
    · split
      · exact .refl a
      next h => exact startStow a fun x => claimChecks_fresh h x rfl

theorem stowAction (a : Acting) : Reach c a (a.stowAction c).1 := by
  unfold Acting.stowAction
  split
  · exact sequenceEvent a _ _ _ _
  next h => exact startStow a fun x => claimChecks_fresh h x rfl

theorem startLower (a : Acting) (h : c.posFresh .mast = true) : Reach c a (a.startLower c) := by
  have hf : ∀ (g : Int) y, (goalFor .mast g y).isSome = true → (a.axes.get y).Claimable c y := by
    intro g y hy
    unfold goalFor at hy
    split at hy
    next e => subst e; exact .inl h
    next => simp at hy
  unfold Acting.startLower
  dsimp only
  split
  · exact .trans (.trans (.trans (claim a _ _ (.inr (.inr rfl)) (hf _)) (.seq _ _)) (enterCause _ _)) (endSequence _ _ _ _)
  · exact .trans (.trans (claim a _ _ (.inr (.inr rfl)) (hf _)) (.seq _ _)) (enterCause _ _)

theorem lowerAction (a : Acting) : Reach c a (a.lowerAction c).1 := by
  unfold Acting.lowerAction
  split
  · exact sequenceEvent a _ _ _ _
  next h => exact startLower a (claimCheck_fresh h)

theorem phaseComplete (a : Acting) : Reach c a (a.phaseComplete c) := by
  unfold Acting.phaseComplete
  split
  · exact .refl a
  · exact enterStowPan a
  · exact enterStowMast a
  · exact finishStow a
  · exact endSequence a _ _ _

theorem sequencerSeesAxes (a : Acting) (old : PerAxis AxisRun) : Reach c a (a.sequencerSeesAxes c old) := by
  unfold Acting.sequencerSeesAxes
  split
  · exact ite (phaseComplete a)
  · exact .refl a

/-! ### The events of axis control -/

theorem handAxes (a : Acting) (old : PerAxis AxisRun) : Reach c a (a.handAxes c old) :=
  .trans (.trans (searchSeesAxes a old) (searchAfter _)) (sequencerSeesAxes _ old)

theorem servoStep (a : Acting) (x : Axis) : Reach c a (a.servoStep c x) := by
  refine .trans (.shift a _ _ fun y => ?_) (handAxes _ _)
  by_cases h : y = x
  · subst h; simpa using AxisRun.Moved.servo (c := c) (x := y) (a.axes.get y)
  · simpa [h] using AxisRun.Moved.same (c := c) (x := y) (a.axes.get y)

theorem updateExpired (a : Acting) (x : Axis) : Reach c a (a.updateExpired c x) := by
  unfold Acting.updateExpired
  split
  · exact .refl a
  · dsimp only
    split
    · exact .tune a x _ ⟨rfl, rfl, rfl, rfl, rfl, rfl, rfl⟩
    · exact .trans (.tune a x _ ⟨rfl, rfl, rfl, rfl, rfl, rfl, rfl⟩) (servoStep _ x)

theorem faultEvent (a : Acting) (x : Axis) (k : FaultCause) : Reach c a (a.faultEvent c x k) := .raise a _ _

theorem immediateZeros_chosen {chosen : Axis → Bool} {x : Axis} (h : chosen x = true) :
    immediateZeros c chosen x = zeroRate c := by
  simp [immediateZeros, zeroRate, h]

theorem immediateZeros_other {chosen : Axis → Bool} {x : Axis} (h : chosen x = false) :
    immediateZeros c chosen x = none := by
  simp [immediateZeros, h]

theorem enterFault (a : Acting) (x : Axis) (cause : FaultCause) (hc : cause ≠ .none) :
    Reach c a (a.enterFault c x cause) := by
  have first : Reach c a (a.shift c (immediateZeros c (fun y => decide (y = x)))
      (fun y r => if y = x then r.faulted cause else r)) := by
    refine .shift a _ _ fun y => ?_
    by_cases h : y = x
    · rw [immediateZeros_chosen (by simp [h]), if_pos h]; exact .faulted cause _ hc
    · rw [immediateZeros_other (by simp [h]), if_neg h]; exact .same _
  unfold Acting.enterFault
  dsimp only
  refine .trans ?_ (faultEvent _ _ _)
  split
  · exact .trans first (failSearch _ _)
  · exact .trans first (faultSequence _)
  all_goals exact first

theorem faultOnce (a : Acting) (x : Axis) (cause : FaultCause) (hc : cause ≠ .none) :
    Reach c a (a.faultOnce c x cause) := by
  unfold Acting.faultOnce; split
  · exact .refl a
  · exact enterFault a x cause hc

theorem losePosition (a : Acting) (x : Axis) : Reach c a (a.losePosition c x) := ite (enterFault a x _ (by decide))

theorem driveActs (a : Acting) (x : Axis) : Reach c a (a.driveActs c x) := by
  unfold Acting.driveActs
  dsimp only
  split
  · exact .refl a
  · exact faultOnce a x _ (by decide)
  · split
    · exact enterFault a x _ (by decide)
    · exact enterFault a x _ (by decide)
    · exact enterFault a x _ (by decide)
    all_goals exact .refl a

theorem driveReport (a : Acting) (x : Axis) (d : DriveState) (w : Word) : Reach c a (a.driveReport c x d w) := by
  unfold Acting.driveReport
  dsimp only
  have first : Reach c a (a.tune x fun r => { r with drive := d, driveCause := w }) :=
    .tune a x _ ⟨rfl, rfl, rfl, rfl, rfl, rfl, rfl⟩
  split
  · exact .trans (.trans first (.tune _ x _ ⟨rfl, rfl, rfl, rfl, rfl, rfl, rfl⟩)) (driveActs _ x)
  · exact first

theorem driveAgeExpired (a : Acting) (x : Axis) : Reach c a (a.driveAgeExpired c x) := by
  unfold Acting.driveAgeExpired
  split
  · exact .trans (.tune a x _ ⟨rfl, rfl, rfl, rfl, rfl, rfl, rfl⟩) (faultOnce _ x _ (by decide))
  all_goals exact .refl a

theorem stallExpired (a : Acting) (x : Axis) : Reach c a (a.stallExpired c x) := by
  unfold Acting.stallExpired
  dsimp only
  split
  · exact .refl a
  · split
    · exact faultOnce a x _ (by decide)
    · exact .tune a x _ ⟨rfl, rfl, rfl, rfl, rfl, rfl, rfl⟩

theorem shiftOne_stopped (a : Acting) (x : Axis) : Reach c a (a.shiftOne c x AxisRun.stoppedBy) := by
  refine shiftQuiet a _ fun y => ?_
  split
  · exact .stopped _
  · exact .same _

theorem jogExpired (a : Acting) (x : Axis) : Reach c a (a.jogExpired c x) := ite (shiftOne_stopped a x)

theorem stopNamed (a : Acting) (named : Axis → Bool) : Reach c a (a.stopNamed c named) := by
  refine .trans (.trans (shiftQuiet a _ fun y => ?_) (abortSearch _)) (abortSequence _)
  split
  · exact .stopped _
  · exact .same _

theorem cutOffAll (a : Acting) : Reach c a (a.cutOffAll c) := by
  refine .trans (.trans (.shift a _ _ fun y => ?_) (abortSearch _)) (abortSequence _)
  rw [immediateZeros_chosen rfl]
  exact .cutOff _

theorem holdShift (a : Acting) (chosen : Axis → Bool) :
    Reach c a (a.shift c (immediateZeros c chosen) (fun x r => if chosen x then r.held else r)) := by
  refine .shift a _ _ fun y => ?_
  cases h : chosen y
  · rw [immediateZeros_other h]; simp only [Bool.false_eq_true, if_false]; exact .same _
  · rw [immediateZeros_chosen h]; simp only [if_true]; exact .held _

theorem holdAxes (a : Acting) (chosen : Axis → Bool) : Reach c a (a.holdAxes c chosen) :=
  .trans (holdShift a chosen) (handAxes _ _)

theorem seePermit (a : Acting) (old : BitVec 7) : Reach c a (a.seePermit c old) :=
  .trans (.trans (holdAxes a _) (searchSeesPermit _ old)) (.status _)

theorem guardMast (a : Acting) : Reach c a (a.guardMast c) := ite (holdAxes a _)

theorem claimAim (a : Acting) (goal : Axis → Option Int)
    (h : ∀ x, (goal x).isSome = true → c.posFresh x = true) : Reach c a (a.claimAim c goal) := by
  unfold Acting.claimAim
  dsimp only
  split
  · exact .trans (claim a _ _ (.inr (.inl rfl)) fun x hx => .inl (h x hx)) (abortSearch _)
  · exact claim a _ _ (.inr (.inl rfl)) fun x hx => .inl (h x hx)

theorem claimJog (a : Acting) (x : Axis) (rate : Int) (hf : c.posFresh x = true) : Reach c a (a.claimJog c x rate) := by
  have first : Reach c a (a.shiftOne c x (AxisRun.jogged (c.tab.motion.get x) c.tab.pointing rate)) := by
    refine shiftQuiet a _ fun y => ?_
    split
    case isTrue h => subst h; exact .jogged rate _ (.inl hf)
    case isFalse => exact .same _
  unfold Acting.claimJog
  dsimp only
  split
  · exact .trans first (abortSearch _)
  · exact first

theorem jog (a : Acting) (n : Node) (x : Axis) (rate : Int) : Reach c a (a.jog c n x rate).1 := by
  unfold Acting.jog
  split
  · exact .refl a
  · split
    · exact .refl a
    next h => exact claimJog a x rate (claimCheck_fresh h)

theorem clearNamed (a : Acting) (named : Axis → Bool) : Reach c a (a.clearNamed c named).1 := by
  refine .trans (shiftQuiet a _ fun y => ?_) (searching _ _)
  split
  case isTrue h =>
    refine .cleared _ ?_
    simp only [clears, Bool.and_eq_true, decide_eq_true_eq] at h
    exact h.1.2
  case isFalse => exact .same _

/-! ### Operators, rules and timers -/

/-- An AIM that passes R99, and a GOTO that passes R104, find the positions of the axes they move fresh. -/
theorem aimChecks_fresh {n : Node} {r : PresetRecord} (h : aimChecks c n r a = none) (x : Axis)
    (hx : (aimGoals c r x).isSome = true) : c.posFresh x = true := by
  unfold aimChecks at h
  repeat' split at h
  all_goals first | cases h | skip
  refine claimChecks_fresh h x ?_
  cases x
  · exact hx
  · cases hb : r.bearing
    · rw [aimGoals, hb] at hx; exact absurd hx (by simp)
    · simp only [PresetRecord.moves, hb, Option.isSome_some]
  · exact hx

theorem gotoChecks_fresh {n : Node} {goal : Axis → Option Int} (h : gotoChecks c n goal a = none) (x : Axis)
    (hx : (goal x).isSome = true) : c.posFresh x = true := by
  unfold gotoChecks at h
  dsimp only at h
  repeat' split at h
  all_goals first | cases h | skip
  exact claimChecks_fresh h x hx

theorem acceptAim (a : Acting) (sender : Node) (n : Fin 16) (r : PresetRecord)
    (h : ∀ x, (aimGoals c r x).isSome = true → c.posFresh x = true) : Reach c a (a.acceptAim c sender n r) :=
  .trans (.trans (.trans (claimAim a _ h) (.pointing _ _)) (.reply _ _ _ _ _)) (searchAfter _)

theorem takeAim (a : Acting) (sender : Node) (ws : List Word) : Reach c a (a.takeAim c sender ws) := by
  unfold Acting.takeAim
  split
  · split
    · exact .reply a _ _ _ _
    · dsimp only
      split
      · exact .reply a _ _ _ _
      next h => exact acceptAim a _ _ _ (aimChecks_fresh h)
  · exact .reply a _ _ _ _

theorem acceptGoto (a : Acting) (sender : Node) (goal : Axis → Option Int)
    (h : ∀ x, (goal x).isSome = true → c.posFresh x = true) : Reach c a (a.acceptGoto c sender goal) :=
  .trans (.trans (claimAim a _ h) (.pointing _ _)) (.reply _ _ _ _ _)

theorem takeGoto (a : Acting) (sender : Node) (ws : List Word) : Reach c a (a.takeGoto c sender ws) := by
  unfold Acting.takeGoto
  split
  · dsimp only
    split
    · exact .reply a _ _ _ _
    next h => exact acceptGoto a _ _ (gotoChecks_fresh h)
  · exact .reply a _ _ _ _

theorem searchEndFrame (a : Acting) : Reach c a (a.searchEndFrame c).1 := by
  unfold Acting.searchEndFrame
  split
  · exact endSearch a _ _ _
  · exact .refl a

theorem performSequence (a : Acting) (stow lower : Bool) : Reach c a (a.performSequence c stow lower).1 := by
  unfold Acting.performSequence
  split
  · split
    · exact .refl a
    · exact stowAction a
  · split
    · exact lowerAction a
    · exact .refl a

theorem perform (a : Acting) (rules : List Rule) (changes : List (Group × Group)) :
    Reach c a (a.perform c rules changes).1 := by
  unfold Acting.perform
  split
  · exact .refl a
  · dsimp only
    split
    · exact .trans (cutOffAll a) (performSequence _ _ _)
    · exact performSequence a _ _

theorem groupEvent (a : Acting) (rules : List Rule) (d : Performed) (old new : Group) :
    Reach c a (a.groupEvent c rules d old new) := by
  unfold Acting.groupEvent
  split
  · exact .refl a
  · exact .raise a _ _

theorem groupEvents (rules : List Rule) (d : Performed) (changes : List (Group × Group)) (a : Acting) :
    Reach c a (changes.foldl (fun a ch => a.groupEvent c rules d ch.1 ch.2) a) := by
  induction changes generalizing a with
  | nil => exact .refl a
  | cons ch rest ih => exact .trans (groupEvent a rules d ch.1 ch.2) (ih _)

theorem startAxes (a : Acting) : Reach c a (a.startAxes c) := by
  refine .shift a _ _ fun y => ?_
  rw [immediateZeros_chosen rfl]
  exact .started _

theorem reopenDrives (a : Acting) : Reach c a (a.reopenDrives c) := by
  refine .shift a _ _ fun y => ?_
  rw [immediateZeros_chosen rfl]
  exact .zeroed _

theorem suspendExpired (a : Acting) : Reach c a (a.suspendExpired c) := ite (failSearch a _)

theorem phaseExpired (a : Acting) : Reach c a (a.phaseExpired c) := ite (timeoutSequence a)

/-! ### The law of fresh positions (R72, R87) -/

/-- Does the state need no fresh position, or is the position fresh? -/
abbrev Rests (c : Ctx) (x : Axis) (r : AxisRun) : Prop := r.state = .stopped ∨ r.state = .fault ∨ c.posFresh x = true

theorem stallWatch_state (g : GuardRecord) (b : AxisState) (p : Int) (r : AxisRun) :
    (r.stallWatch g b p).state = r.state := by
  unfold AxisRun.stallWatch; repeat' split
  all_goals rfl

/-- Every change of an axis record keeps an axis whose position is not fresh STOPPED or in FAULT. -/
theorem rests_moved {x : Axis} {r r' : AxisRun} {v : Option Int} (h : AxisRun.Moved c x r r' v) (h0 : Rests c x r) :
    Rests c x r' := by
  by_cases hf : c.posFresh x = true
  · exact .inr (.inr hf)
  have h1 : r.state = .stopped ∨ r.state = .fault := by
    rcases h0 with h | h | h
    · exact .inl h
    · exact .inr h
    · exact absurd h hf
  have h2 : r'.state = .stopped ∨ r'.state = .fault := by
    cases h with
    | same => exact h1
    | claimed o g _ ho hc =>
      rcases hc with hc | hc
      · exact absurd hc hf
      · rcases h1 with h | h <;> simp [h] at hc
    | jogged rate _ hc =>
      rcases hc with hc | hc
      · exact absurd hc hf
      · rcases h1 with h | h <;> simp [h] at hc
    | released => unfold AxisRun.released; rcases h1 with h | h <;> simp [h]
    | stopped => unfold AxisRun.stoppedBy; rcases h1 with h | h <;> simp [h]
    | cleared => exact .inl rfl
    | cutOff => unfold AxisRun.cutOff; rcases h1 with h | h <;> simp [h, AxisRun.enter, AxisRun.zeroed]
    | held => unfold AxisRun.held; rcases h1 with h | h <;> simp [h, AxisRun.zeroed]
    | faulted => exact .inr rfl
    | zeroed => exact h1
    | started => exact h1
    | servo =>
      simp only [AxisRun.servo, stallWatch_state]
      unfold AxisRun.outcome
      rcases h1 with h | h <;> simp [h]
  exact h2.elim .inl fun h => .inr (.inl h)

/-- The law of fresh positions is kept by every change of the acting side. -/
theorem rests {x : Axis} (h : Reach c a b) (h0 : Rests c x (a.axes.get x)) : Rests c x (b.axes.get x) := by
  refine h.keeps (P := fun d => Rests c x (d.axes.get x)) h0 ?_ ?_ (fun _ _ hd => hd) (fun _ _ hd => hd)
    (fun _ _ hd => hd) (fun _ _ _ hd => hd) (fun _ hd => hd) (fun _ _ _ _ _ hd => hd)
  · intro d rate f hm hd
    have := rests_moved (hm x) hd
    rw [Acting.shift_axes]
    cases x <;> exact this
  · intro d y f hm hd
    by_cases e : y = x
    · subst e
      simp only [Acting.tune, PerAxis.get_set_self]
      simpa only [Rests, hm.state] using hd
    · simpa only [Acting.tune, PerAxis.get_set_of_ne _ (Ne.symm e)] using hd

end Acting.Reach

end Sys2Proof.Machine
end

