-- ==== Sys2Proof/Laws/Frame.lean ====
section
/-! SUPPORT. The operations that every command passes through, each said once: the admission of a frame
(R158 to R162), and the line set's arrivals after an event (R23, R48), with what they leave unchanged and
how a law is shown to be kept by them. -/

namespace Sys2Proof.Machine

/-! ### Admission -/

theorem Tables.bound_owns {p : Part} {dst : Node} (port : Port) (h : p.owns dst) : p.tab.bound port dst = .part := by
  unfold Tables.bound; simp only [h, if_true]

/-- A frame that passes steps 1 to 6 of R158 is counted, metered and routed. -/
theorem Part.arrive_admitted {p : Part} {port : Port} {f : Frame} (h : p.admits port f)
    (hk : kindAllowed (p.tab.node f.src) f.kind (p.tab.bound port f.dst) = true) :
    p.arrive port f = (p.entered port f.src).route port f := by
  obtain ⟨h1, h2, h3, h4, h5⟩ := h
  have hc : (p.received port).arrivalCheck port f = none := by
    unfold Part.arrivalCheck Part.received
    simp only [h1, h3, h4, hk, Bool.not_true, Bool.false_eq_true, if_false, ne_eq, not_true_eq_false]
    rw [if_neg h2, if_neg (by omega)]
  unfold Part.arrive
  simp only [hc]
  rfl

/-- A frame that the part consumes is taken by the part as its admission leaves it. -/
theorem Part.arrive_consumed {p : Part} {h : Header} {k : Kind} {ws : List Word} (hc : p.consumes h k ws) :
    p.arrive h.port (frameOf h k ws) = (p.entered h.port h.src).consume h.port (frameOf h k ws) := by
  obtain ⟨_, ha, ho, hk⟩ := hc
  have hb : p.tab.bound h.port h.dst = .part := Tables.bound_owns _ ho
  rw [Part.arrive_admitted ha (by simp only [frameOf, hb, kindAllowed]; exact decide_eq_true hk)]
  have hb' : (p.entered h.port (frameOf h k ws).src).tab.bound h.port (frameOf h k ws).dst = .part := hb
  unfold Part.route; rw [hb']; rfl

/-- Only a SAMPLE and a DRIVE_STATUS are mirrored (R175). -/
theorem Part.consume_take {p : Part} {port : Port} {f : Frame} (h1 : f.kind ≠ .sample) (h2 : f.kind ≠ .driveStatus) :
    p.consume port f = p.take f := by
  unfold Part.consume Part.mirrors
  simp only [h1, h2, decide_false, Bool.or_self, Bool.false_and, Bool.false_eq_true, if_false]

/-- A dropped arrival is counted, and dropped. -/
theorem Part.arrive_dropped {p : Part} {port : Port} {f : Frame} {r : DropReason}
    (h : (p.received port).arrivalCheck port f = some r) :
    p.arrive port f = (p.received port).drop (dropOf r port f) := by
  unfold Part.arrive; simp only [h]

/-- A command acts on a part that is not held. -/
theorem State.run_live {s : State} (h : s.part.sen.held = false) (f : Part → Part) :
    s.run f = .next (s.settled (f s.part)) := by
  unfold State.run Part.live State.settled; simp only [h, Bool.false_eq_true, if_false]

theorem State.run_consumed {s : State} {h : Header} {k : Kind} {ws : List Word} (hc : s.part.consumes h k ws) :
    (s.run fun p => p.arrive h.port (frameOf h k ws))
      = .next (s.settled ((s.entered h).consume h.port (frameOf h k ws))) := by
  rw [State.run_live hc.1, Part.arrive_consumed hc]; rfl

/-- A command frame that the part consumes. -/
theorem State.run_taken {s : State} {h : Header} {k : Kind} {ws : List Word} (hc : s.part.consumes h k ws)
    (h1 : k ≠ .sample) (h2 : k ≠ .driveStatus) :
    (s.run fun p => p.arrive h.port (frameOf h k ws)) = .next (s.settled ((s.entered h).take (frameOf h k ws))) := by
  rw [State.run_consumed hc, Part.consume_take h1 h2]

/-- Every frame row is the arrival of its frame (R158, log 6). -/
theorem exec_arrival {c : Instr} {port : Port} {f : Frame} (h : c.arrival = some (port, f)) (s : State) :
    exec c s = s.run fun p => (c.seenBy p).arrive port f := by
  cases c
  case frameDropped p framing ws =>
    simp only [Instr.arrival] at h
    obtain ⟨g, hg, he⟩ := Option.map_eq_some_iff.1 h
    cases he
    simp only [exec, execFrameDropped, Part.arriveWords, hg]; rfl
  all_goals first | (cases h; rfl) | cases h

/-- A frame row whose frame is a command that the part consumes takes it. -/
theorem exec_taken {c : Instr} {s : State} {h : Header} {k : Kind} {ws : List Word}
    (ha : c.arrival = some (h.port, frameOf h k ws)) (hc : s.part.consumes h k ws) (h1 : k ≠ .sample)
    (h2 : k ≠ .driveStatus) :
    exec c s = .next (s.settled ((c.seenBy (s.entered h)).take (frameOf h k ws))) := by
  rw [exec_arrival ha]
  cases c
  case tableWriteLine h' pins i fs =>
    have hs : (s.part.seePins pins).consumes h k ws := hc
    have e : (s.run fun p => ((Instr.tableWriteLine h' pins i fs).seenBy p).arrive h.port (frameOf h k ws))
        = .next (s.settled ((s.part.seePins pins).arrive h.port (frameOf h k ws))) := State.run_live hc.1 _
    rw [e, Part.arrive_consumed hs, Part.consume_take h1 h2]
    rfl
  all_goals exact State.run_taken hc h1 h2

/-! ### The line set's arrivals -/

/-- With no line set waiting, and LINES as the levels form it, nothing follows. -/
theorem Part.settle_of_lines {p : Part} (h0 : p.act.lineWrites = []) (h : p.lineSet = p.sen.lines) : p.settle = p := by
  have ha : p.act.formLines p.ctx = p.act := by
    unfold Acting.formLines Acting.lastLines
    rw [h0]
    exact if_pos h
  have hf : p.formLines = p := by unfold Part.formLines; rw [ha]
  unfold Part.settle Config.lineRounds Part.followLines; simp only [hf, h0]

theorem lineNumber_range (level : Fin 8 → Bool) : 0 ≤ lineNumber level ∧ lineNumber level ≤ 255 := by
  have h : ∀ a b c d e f g i : Bool,
      let l : Fin 8 → Bool := fun k => match k with
        | 0 => a | 1 => b | 2 => c | 3 => d | 4 => e | 5 => f | 6 => g | 7 => i
      0 ≤ lineNumber l ∧ lineNumber l ≤ 255 := by decide
  have e : (fun k : Fin 8 => match k with
      | 0 => level 0 | 1 => level 1 | 2 => level 2 | 3 => level 3 | 4 => level 4 | 5 => level 5 | 6 => level 6
      | 7 => level 7) = level := by
    funext k; fin_cases k <;> rfl
  have := h (level 0) (level 1) (level 2) (level 3) (level 4) (level 5) (level 6) (level 7)
  simp only [e] at this; exact this

/-- Every line set that is formed lies within 0..255. -/
theorem Acting.formLines_range {c : Ctx} {a : Acting} (h : ∀ v ∈ a.lineWrites, 0 ≤ v ∧ v ≤ 255) :
    ∀ v ∈ (a.formLines c).lineWrites, 0 ≤ v ∧ v ≤ 255 := by
  unfold Acting.formLines
  dsimp only
  split
  · exact h
  · intro v hv
    rcases List.mem_append.1 hv with hv | hv
    · exact h v hv
    · rw [List.mem_singleton.1 hv]; exact lineNumber_range _

theorem Acting.setAxes_range {c : Ctx} {a : Acting} (t : PerAxis AxisRun)
    (h : ∀ v ∈ a.lineWrites, 0 ≤ v ∧ v ≤ 255) : ∀ v ∈ (a.setAxes c t).lineWrites, 0 ≤ v ∧ v ≤ 255 := by
  simp only [Acting.setAxes, axisList, List.foldl]
  exact formLines_range (formLines_range (formLines_range h))

/-- No change of the acting side leaves a line set outside 0..255 waiting. -/
theorem Acting.Reach.lineWrites_range {c : Ctx} {a b : Acting} (h : Acting.Reach c a b)
    (h0 : ∀ v ∈ a.lineWrites, 0 ≤ v ∧ v ≤ 255) : ∀ v ∈ b.lineWrites, 0 ≤ v ∧ v ≤ 255 := by
  refine h.keeps (P := fun d => ∀ v ∈ d.lineWrites, 0 ≤ v ∧ v ≤ 255) h0 ?_ (fun _ _ _ _ hd => hd)
    (fun _ _ hd => hd) (fun _ _ hd => hd) (fun _ _ hd => hd) (fun _ _ _ hd => hd) (fun _ hd => hd)
    (fun _ _ _ _ _ hd => hd)
  intro d rate f _ hd
  simp only [Acting.shift, Acting.reportAxes_lineWrites, Acting.sendDemands_lineWrites]
  exact Acting.setAxes_range _ hd

/-- A law kept by a change of groups with the line set and the permit set formed from it, and by every change
of the acting side, is kept by an evaluation. -/
theorem Part.evaluate_keeps {P : Part → Prop}
    (groups : ∀ p gs, P p → P ({ p with sen := { p.sen with groups := gs } } : Part).formLines.formPermit)
    (reach : ∀ p a, Acting.Reach p.ctx p.act a → P p → P { p with act := a })
    (concerned : Group → Bool) {p : Part} (h : P p) : P (p.evaluate concerned) := by
  unfold Part.evaluate
  exact reach _ _ (.trans (Acting.Reach.perform _ _ _) (Acting.Reach.groupEvents _ _ _ _)) (groups _ _ h)

/-- A law kept by the write of a line set too is kept by its arrival. -/
theorem Part.takeLines_keeps {P : Part → Prop} {p : Part} {v : Int}
    (lines : P { p with sen := p.sen.writeLines v })
    (groups : ∀ p gs, P p → P ({ p with sen := { p.sen with groups := gs } } : Part).formLines.formPermit)
    (reach : ∀ p a, Acting.Reach p.ctx p.act a → P p → P { p with act := a }) : P (p.takeLines v) :=
  Part.evaluate_keeps groups reach _ lines

/-- A law kept when the line set is formed, and when the oldest line set that waits is written, is kept by all
the line set's arrivals after an event. -/
theorem Part.settle_keeps {P : Part → Prop}
    (form : ∀ p, P p → P p.formLines)
    (lines : ∀ (p : Part) v rest, p.act.lineWrites = v :: rest → P p →
      P { p with act := { p.act with lineWrites := rest }, sen := p.sen.writeLines v })
    (groups : ∀ p gs, P p → P ({ p with sen := { p.sen with groups := gs } } : Part).formLines.formPermit)
    (reach : ∀ p a, Acting.Reach p.ctx p.act a → P p → P { p with act := a })
    {p : Part} (h : P p) : P p.settle := by
  unfold Part.settle
  generalize Config.lineRounds = n
  have h' := form p h
  generalize p.formLines = q at h'
  induction n generalizing q with
  | zero => exact h'
  | succ n ih =>
    unfold Part.followLines
    split
    · exact h'
    · next v rest e => exact ih _ (Part.takeLines_keeps (lines q v rest e h') groups reach)

/-- A law kept by the permit set's update and by the acting side is kept when the permit set is formed. -/
theorem Part.formPermit_keeps {P : Part → Prop} {p : Part}
    (permit : ∀ v, P p → P { p with sen := { p.sen with permit := v } })
    (reach : ∀ p a, Acting.Reach p.ctx p.act a → P p → P { p with act := a })
    (h : P p) : P p.formPermit := by
  unfold Part.formPermit
  dsimp only
  split
  · exact h
  · exact reach _ _ (Acting.Reach.seePermit _ _) (permit _ h)

/-- What an evaluation and the line set's arrivals leave as it was: the tables, and all that the part senses
but the groups, the permit set and the value of LINES. -/
structure Part.SameSense (p q : Part) : Prop where
  tab : q.tab = p.tab
  mode : q.sen.mode = p.sen.mode
  held : q.sen.held = p.sen.held
  pins : q.sen.pins = p.sen.pins
  image : ∀ k : Fin 24, k ≠ 11 → q.sen.image[k] = p.sen.image[k]
  filters : q.sen.filters = p.sen.filters
  testOn : q.sen.testOn = p.sen.testOn
  testOff : q.sen.testOff = p.sen.testOff
  meters : q.sen.meters = p.sen.meters
  sampleTimer : q.sen.sampleTimer = p.sen.sampleTimer
  refillTimer : q.sen.refillTimer = p.sen.refillTimer

namespace Part.SameSense

theorem refl (p : Part) : Part.SameSense p p := ⟨rfl, rfl, rfl, rfl, fun _ _ => rfl, rfl, rfl, rfl, rfl, rfl, rfl⟩

theorem trans {p q r : Part} (h₁ : Part.SameSense p q) (h₂ : Part.SameSense q r) : Part.SameSense p r :=
  ⟨h₂.tab.trans h₁.tab, h₂.mode.trans h₁.mode, h₂.held.trans h₁.held, h₂.pins.trans h₁.pins,
   fun k hk => (h₂.image k hk).trans (h₁.image k hk), h₂.filters.trans h₁.filters, h₂.testOn.trans h₁.testOn,
   h₂.testOff.trans h₁.testOff, h₂.meters.trans h₁.meters, h₂.sampleTimer.trans h₁.sampleTimer,
   h₂.refillTimer.trans h₁.refillTimer⟩

theorem withAct (p : Part) (a : Acting) : Part.SameSense p { p with act := a } :=
  ⟨rfl, rfl, rfl, rfl, fun _ _ => rfl, rfl, rfl, rfl, rfl, rfl, rfl⟩

theorem withLines (p : Part) (v : Int) : Part.SameSense p { p with sen := p.sen.writeLines v } :=
  ⟨rfl, rfl, rfl, rfl, fun k hk => by
    have : (11 : ℕ) ≠ k.val := fun e => hk (Fin.ext e.symm)
    simp only [Sensed.writeLines, Fin.getElem_fin]
    exact Vector.getElem_set_ne _ _ this, rfl, rfl, rfl, rfl, rfl, rfl⟩

theorem withGroups (p : Part) (gs : List Group) : Part.SameSense p { p with sen := { p.sen with groups := gs } } :=
  ⟨rfl, rfl, rfl, rfl, fun _ _ => rfl, rfl, rfl, rfl, rfl, rfl, rfl⟩

theorem formPermit (p : Part) : Part.SameSense p p.formPermit := by
  unfold Part.formPermit; dsimp only; split
  · exact refl p
  · exact ⟨rfl, rfl, rfl, rfl, fun _ _ => rfl, rfl, rfl, rfl, rfl, rfl, rfl⟩

theorem evaluate (concerned : Group → Bool) (p : Part) : Part.SameSense p (p.evaluate concerned) :=
  Part.evaluate_keeps (P := Part.SameSense p)
    (fun q gs h => ((h.trans (withGroups q gs)).trans (withAct _ _)).trans (formPermit _))
    (fun _ _ _ h => h.trans (withAct _ _)) concerned (refl p)

theorem takeLines (v : Int) (p : Part) : Part.SameSense p (p.takeLines v) :=
  (withLines p v).trans (evaluate _ _)

theorem settle (p : Part) : Part.SameSense p p.settle :=
  Part.settle_keeps (P := Part.SameSense p) (fun _ h => h.trans (withAct _ _))
    (fun q v rest _ h => (h.trans (withAct q { q.act with lineWrites := rest })).trans
      (withLines { q with act := { q.act with lineWrites := rest } } v))
    (fun q gs h => ((h.trans (withGroups q gs)).trans (withAct _ _)).trans (formPermit _))
    (fun _ _ _ h => h.trans (withAct _ _)) (refl p)

end Part.SameSense

end Sys2Proof.Machine
end

