-- ==== Sys2Proof/Laws/Search.lean ====
section
/-! SUPPORT. The search for the next probe (R114 to R117): the failure step leaves fewer failure steps, so that
`SearchRun.seekBound` is never reached, and any larger bound finds the same probe. -/

namespace Sys2Proof.Machine

/-- A bound on the failure steps that a search can still take in one go: two for each turn that is left of
its round, and four for each round that a smaller step allows (R114 to R117). -/
def SearchRun.stepsLeft (s : SearchRun) : Nat :=
  4 * s.step + (if s.gain then 6 else if s.noGain = 0 then 4 else 2) - (if s.failed = 0 then 0 else 1)

/-- One failure step is always left. -/
theorem SearchRun.stepsLeft_pos (s : SearchRun) : 1 ≤ s.stepsLeft := by
  unfold SearchRun.stepsLeft; split <;> split <;> (try split) <;> omega

/-- The bound of `Acting.nextProbe` is large enough. -/
theorem SearchRun.stepsLeft_le (s : SearchRun) : s.stepsLeft + 2 ≤ s.seekBound := by
  unfold SearchRun.stepsLeft SearchRun.seekBound; split <;> split <;> (try split) <;> omega

/-- A failure step after which the search goes on leaves fewer of them. -/
theorem SearchRun.failStep_less (r : SearchRecord) (s : SearchRun) (h : (s.failStep r).2 = true) :
    (s.failStep r).1.stepsLeft < s.stepsLeft := by
  revert h
  unfold SearchRun.failStep
  unfold SearchRun.stepsLeft
  rcases s.gain with _ | _ <;> by_cases h0 : s.failed = 0 <;> by_cases h1 : s.noGain = 0 <;>
    by_cases h2 : r.smin < s.step <;> (simp [h0, h1, h2]; try omega)

/-- Any two bounds that are large enough find the same probe. -/
theorem SearchRun.seek_stable (t : Tables) : ∀ (n m : Nat) (s : SearchRun),
    s.stepsLeft ≤ n → s.stepsLeft ≤ m → SearchRun.seek t n s = SearchRun.seek t m s
  | 0, _, s, hn, _ => by have := SearchRun.stepsLeft_pos s; omega
  | n + 1, 0, s, _, hm => by have := SearchRun.stepsLeft_pos s; omega
  | n + 1, m + 1, s, hn, hm => by
    unfold SearchRun.seek
    simp only
    split
    · rcases h : s.failStep t.search with ⟨s', b⟩
      cases b
      · rfl
      · have hl := SearchRun.failStep_less t.search s (by rw [h])
        rw [h] at hl
        exact seek_stable t n m s' (by simp only at hl; omega) (by simp only at hl; omega)
    · rfl

end Sys2Proof.Machine
end

