-- ==== Sys2Proof/WellFormed.lean ====
section
/-! DEFINITION. Which commands spell a frame that can stand on the link (R143, R182). The meanings do
not lean on it: an ill-formed frame is an arrival too, and is dropped as BAD_FORM (R145). -/

namespace Sys2Proof

/-- R143: the source of a frame is 0..30 and its payload holds at most fourteen words. -/
def Header.frameOk (h : Header) (payload : List Word) : Bool :=
  decide (h.src.val < 31) && decide (payload.length ≤ Config.maxPayload)

/-- A table write carries a table id, an index and its fields (R147). -/
def Header.writeOk (h : Header) (fields : List Word) : Bool :=
  decide (h.src.val < 31) && decide (fields.length + 2 ≤ Config.maxPayload)

/-- R182, item 2: the first payload word, when two are there, names no table 1..12. -/
def namesNoTable (payload : List Word) : Bool :=
  match payload with
  | id :: _ :: _ => !(decide (1 ≤ id.toInt) && decide (id.toInt ≤ 12))
  | _ => true

/-- R145: a SAMPLE carries one to seven pairs. -/
def pairsOk (payload : List Word) : Bool :=
  decide (payload.length ≠ 0) && decide (payload.length % 2 = 0)

/-- The form each row asks of its operands. -/
def Instr.wellFormed : Instr → Bool
  | .powerOnReset _ _ => true
  | .reset h ws => h.frameOk ws
  | .sample h ws => h.frameOk ws && pairsOk ws
  | .ageExpiry _ => true
  | .filteredLevelChange _ => true
  | .driveStatus h ws => h.frameOk ws && decide (ws.length = 2)
  | .consoleDemand h ws => h.frameOk ws && decide (ws.length = 1)
  | .nodeDataForward h ws => h.frameOk ws
  | .frameIgnored h _ ws => h.frameOk ws
  | .frameDropped _ _ ws => decide (ws ≠ [])
  | .aim h ws => h.frameOk ws
  | .goto h ws => h.frameOk ws
  | .jog h ws => h.frameOk ws
  | .stop h ws => h.frameOk ws
  | .stow h ws => h.frameOk ws
  | .searchStart h ws => h.frameOk ws
  | .searchEnd h ws => h.frameOk ws
  | .clear h ws => h.frameOk ws
  | .start h ws => h.frameOk ws
  | .tableWriteNode h _ fs => h.writeOk fs
  | .tableWriteQuantity h _ fs => h.writeOk fs
  | .tableWriteRule h _ _ fs => h.writeOk fs
  | .tableWriteAxisMotion h _ fs => h.writeOk fs
  | .tableWriteAxisGuard h _ fs => h.writeOk fs
  | .tableWritePreset h _ fs => h.writeOk fs
  | .tableWriteSearch h _ fs => h.writeOk fs
  | .tableWritePointing h _ fs => h.writeOk fs
  | .tableWriteLine h _ _ fs => h.writeOk fs
  | .tableWritePort h _ fs => h.writeOk fs
  | .tableWriteReport h _ fs => h.writeOk fs
  | .tableWriteBadTable h ws => h.frameOk ws && namesNoTable ws
  | .tableRead h ws => h.frameOk ws
  | .bankSwap h ws => h.frameOk ws
  | .readStatus h ws => h.frameOk ws
  | .readCounters h ws => h.frameOk ws
  | .readDrops h ws => h.frameOk ws
  | .linesSet h ws => h.frameOk ws
  | .lampTest h ws => h.frameOk ws
  | .updateExpiry _ => true
  | .jogTimerExpiry _ => true
  | .stallTimerExpiry _ => true
  | .driveAgeExpiry _ => true
  | .suspendTimerExpiry => true
  | .phaseTimerExpiry => true
  | .refillTimerExpiry => true
  | .statusTimerExpiry => true
  | .transmissionComplete _ => true
  | .inputSample _ => true
  | .resetInputAsserted => true

end Sys2Proof
end

