-- ==== Sys2Proof/Tests/Slice0.lean ====
section
/-! SUPPORT. Tests: the form checks on ill-formed commands, the worked frames of the manual, and for every
statement with hypotheses a concrete state and operands that meet them, clause by clause. -/

namespace Sys2Proof.Machine

/-! ### Ill-formed commands -/

def console : Header := { port := .c, dst := 24, src := 1, prio := 5 }
def badSource : Header := { console with src := 31 }
def sensor : Header := { port := .s, dst := 24, src := 3, prio := 3 }
def drive : Header := { port := .d, dst := 24, src := 9, prio := 3 }

theorem test_source31_illFormed : (Instr.aim badSource [3]).wellFormed = false := by decide
theorem test_longPayload_illFormed : (Instr.goto console (List.replicate 15 0)).wellFormed = false := by decide
theorem test_longWrite_illFormed : (Instr.tableWriteNode console 2 (List.replicate 13 0)).wellFormed = false := by
  decide
theorem test_writeSource31_illFormed : (Instr.tableWritePort badSource 2 [0, 0]).wellFormed = false := by decide
theorem test_oddSample_illFormed : (Instr.sample sensor [0, 1, 2]).wellFormed = false := by decide
theorem test_emptySample_illFormed : (Instr.sample sensor []).wellFormed = false := by decide
theorem test_shortDriveStatus_illFormed : (Instr.driveStatus drive [0]).wellFormed = false := by decide
theorem test_longDemand_illFormed : (Instr.consoleDemand console [0, 0]).wellFormed = false := by decide
theorem test_emptyDrop_illFormed : (Instr.frameDropped .c true []).wellFormed = false := by decide
theorem test_goodTableInBadTable_illFormed : (Instr.tableWriteBadTable console [12, 0, 1]).wellFormed = false := by
  decide
theorem test_wellFormed : (Instr.aim console [3]).wellFormed = true
    ∧ (Instr.tableWriteBadTable console [13, 0]).wellFormed = true
    ∧ (Instr.sample sensor [0, 100]).wellFormed = true := by decide

/-! ### The worked frames (08_the_equipment_link) -/

/-- AIM of preset 3 from node 2 to node 24. -/
def workedAim : Frame := { dst := 24, src := 2, prio := 5, kind := .aim, payload := [3] }
/-- Its REPLY, DONE. -/
def workedReply : Frame := { dst := 2, src := 24, prio := 7, kind := .reply, payload := [0x1000] }

theorem test_workedAim_words : wireWords workedAim = [0xC0A8, 0x1010, 0x0003, 0x2F44] := by decide
theorem test_workedReply_words : wireWords workedReply = [0x1638, 0x3110, 0x1000, 0xA8B7] := by decide
theorem test_workedAim_read : readWords true [0xC0A8, 0x1010, 0x0003, 0x2F44] = some workedAim := by decide
theorem test_badCheck_noFrame : readWords true [0xC0A8, 0x1010, 0x0003, 0x2F45] = none := by decide

/-! ### A part ready to move -/

def siteNode (port : Port) (role : Role) : NodeEntry :=
  { present := true, port := port, role := role, rights := 7, mirror := false, rate := 100, burst := 16, cap := 5 }

def siteMotion : MotionRecord := { MotionRecord.default with softMin := -1800, softMax := 8500 }

/-- Nodes 1 and 2 on port C, 3 a sensor, 4 another node of port S, 8 to 10 the drives; one group that holds
the mast down when line 1 is set, and one in bank B; a preset. -/
def siteTables : Tables :=
  { Tables.default 0 with
    nodes := (((((((Vector.replicate 32 NodeEntry.absent).set 1 (siteNode .c .maint)).set 2 (siteNode .c .console)).set 3
      (siteNode .s .sensor)).set 4 (siteNode .s .observer)).set 8 (siteNode .d .drive)).set 9 (siteNode .d .drive)).set 10
      (siteNode .d .drive)
    ruleA := (Vector.replicate 48 Rule.empty).set 0
      { Rule.empty with used := true, operand := 11, condition := .anySet, threshold := 2, inhibits := 2 }
    ruleB := (Vector.replicate 48 Rule.empty).set 0 { Rule.empty with used := true, operand := 0 }
    motion := ⟨{ siteMotion with softMin := 0 }, siteMotion, siteMotion⟩
    presets := (Vector.replicate 16 PresetRecord.empty).set 3
      { present := true, height := some 5000, bearing := some 1000, elevation := some 200, searchAfter := true } }

def fresh (v : Int) : QuantityRun := { value := v, state := .fresh, age := some 500000, faults := 0 }

def siteSensed : Sensed :=
  { Sensed.reset with
    mode := .operating, permit := 127, meters := siteTables.fullMeters
    image := (((((Sensed.reset.image.set 0 (fresh 6000)).set 1 (fresh 100)).set 2 (fresh 0)).set 3 (fresh 0)).set 8
      (fresh 300)).set 11 (QuantityRun.linesStart 252)
    filters := (Sensed.reset.filters.set 1 (some { level := false, run := 0 })).set 0 (some { level := false, run := 15 })
    groups := [{ first := 0, last := 0, state := .clear, trueRun := 0, falseRun := 0 }] }

def readyAxis : AxisRun :=
  { AxisRun.start with drive := .ready, driveAge := .running 500000, updateTimer := some 20000 }

def siteActing : Acting := { Acting.start 50 100 with axes := ⟨readyAxis, readyAxis, readyAxis⟩ }

/-- The part in OPERATING, every position fresh, every drive READY, every axis STOPPED. -/
def site : State := { part := { tab := siteTables, sen := siteSensed, act := siteActing }, pending := [] }

/-- The same part with another acting side. -/
def State.withAct (a : Acting) (s : State) : State := { s with part := { s.part with act := a } }
def State.withSen (n : Sensed) (s : State) : State := { s with part := { s.part with sen := n } }
def State.withAxes (r : AxisRun) (s : State) : State := s.withAct { s.part.act with axes := ⟨r, r, r⟩ }
def State.withSearch (f : SearchRun → SearchRun) (s : State) : State := s.withAct (s.part.act.searching f)
def State.withOut (f : Output → Output) (s : State) : State := s.withAct { s.part.act with out := f s.part.act.out }

/-- The same part before START. -/
def idleSite : State := site.withSen { siteSensed with mode := .unconfigured, permit := 0 }

def movingAxis : AxisRun := { readyAxis with state := .moving, owner := .aim, goal := some 400, vPrev := -50 }
def goalAxis : AxisRun := { readyAxis with state := .atGoal, owner := .search, goal := some 0 }
def jogAxis : AxisRun :=
  { readyAxis with
    state := .jogging, owner := .jog, jog := some 300, jogTimer := some 0, vPrev := 300, stallTimer := some 0
    stallPos := some 0 }
def faultAxis : AxisRun := { readyAxis with state := .fault, faultCause := .stall }
def someFrame : Frame := { dst := 9, src := 1, prio := 5, kind := .nodeData, payload := [7] }
def sending : Transmission := { frame := someFrame, left := 0 }
def searching : State := (site.withAxes goalAxis).withSearch fun r => { r with state := .peaked }
def suspended : State := site.withSearch fun r => { r with state := .suspended, timer := some 0 }

/-! ### Witnesses: the block, resets and modes -/

theorem test_witness_emptyQueue :
    (site.pending = [] ∧ site.part.sen.held = false ∧ site.part.due = none ∧ site.part.untilNext = some 1000)
    ∧ (site.withSen { siteSensed with refillTimer := some 0 }).part.due = some .refillTimerExpiry
    ∧ (site.withSen { siteSensed with held := true }).part.sen.held = true := by decide

theorem test_witness_warmReset : site.part.consumes console .reset [] := by decide

theorem test_witness_held : (site.withSen { siteSensed with held := true }).part.sen.held = true
    ∧ Instr.statusTimerExpiry ≠ .resetInputAsserted := by decide

theorem test_witness_start :
    (site.part.consumes console .start [] ∧ startChecks (site.entered console).ctx = some .noChange)
    ∧ (idleSite.part.consumes console .start [] ∧ startChecks (idleSite.entered console).ctx = none) := by decide

/-- START: every axis has sent its DEMAND of 0, which for the mast is in transmission. -/
theorem test_start_sends_zeros :
    let b := idleSite.part.starts.act
    Output.sends (demandFrame siteTables .mast 0) .mast b.out ∧ Output.sends (demandFrame siteTables .pan 0) .pan b.out
      ∧ Output.sends (demandFrame siteTables .tilt 0) .tilt b.out := by decide

/-- Each check of START as the first that fails. -/
theorem test_witness_startChecks :
    let c := idleSite.part.ctx
    let level := { siteMotion with softMin := 8500 }
    startChecks State.reset.part.ctx = some .emptyRules
      ∧ startChecks { c with tab := { siteTables with motion := ⟨siteMotion, level, siteMotion⟩ } } = some .axisLimits
      ∧ startChecks { c with tab := siteTables.setNode 10 (siteNode .s .drive) } = some .noDrive
      ∧ startChecks { c with sen := { c.sen with filters := c.sen.filters.set 0 (some { level := true, run := 0 }) } }
        = some .estopActive := by decide

/-! ### Witnesses: image and lines -/

theorem test_witness_sample : site.part.consumes sensor .sample [8, 320, 0, 7000] := by decide

theorem test_witness_pair :
    (((site.part.tab.quantity 0).source.val = 31) ∧ (site.part.tab.quantity 0).lo ≤ 15500
      ∧ 15500 ≤ (site.part.tab.quantity 0).hi)
    ∧ ¬((site.part.tab.quantity 0).lo ≤ (-1 : Int)) := by decide

/-- The hand-offs of a taken value: RX_LEVEL enters the buffer of a search that probes, HEADING does not. -/
theorem test_valueTaken_handOffs :
    let s := (site.withAxes goalAxis).withSearch fun r => { r with state := .probing }
    (Part.valueTaken 8 320 s.part).act.search.buffer = [320] ∧ (Part.valueTaken 3 320 s.part).act.search.buffer = [] := by
  decide

theorem test_witness_ageExpiry :
    site.part.sen.held = false ∧ (8 : Fin 24) ≠ 11 ∧ (site.part.sen.image[(8 : Fin 24)]).age.isSome = true
      ∧ (site.part.sen.image[(7 : Fin 24)]).age = none := by decide

def lowSite : State :=
  { site with part := { site.part with tab :=
    { siteTables with pointing := { PointingRecord.default with clearHeight := 6000, safeHeight := 6000 } } } }

/-- The hand-offs of a stale position: an axis that loses it and one that does not, and the guard at its height. -/
theorem test_witness_staleHandOffs :
    movingAxis.state.needsPosition = true ∧ readyAxis.state.needsPosition = false
      ∧ (movingAxis.vPrev < 0 ∧ lowSite.part.ctx.pos .mast ≤ lowSite.part.tab.pointing.clearHeight
        ∧ ¬(lowSite.part.ctx.inStow .pan = true ∧ lowSite.part.ctx.inStow .tilt = true))
      ∧ ¬(site.part.ctx.pos .mast ≤ site.part.tab.pointing.clearHeight) := by decide

theorem test_witness_filter :
    let f : LineFilter := { level := true, run := 0 }
    (false ≠ f.level ∧ f.run = 0 ∧ 0 < 4) ∧ true = f.level := by decide

theorem test_witness_estop :
    site.part.sen.held = false ∧ site.part.sen.estop = false ∧ site.part.sen.estopAfter 0xFF = true
      ∧ site.part.sen.mode = .operating ∧ site.part.tab.ports.d.state ≠ .closed := by decide

/-- The release of ESTOP: the event carries 0, and no axis is cut off. -/
theorem test_estop_release :
    let n : Sensed := { siteSensed with
      permit := 0, filters := siteSensed.filters.set 0 (some { level := true, run := 0 }) }
    let s := (site.withSen n).withAxes movingAxis
    s.part.sen.estop = true ∧ s.part.sen.estopAfter 0 = s.part.sen.estop
      ∧ (let p : Part := { s.part with sen := siteSensed }
        (p.estopChanged.act.out.tx.c.map (·.frame.payload)) = some [5, 0] ∧ p.estopChanged.act.axes.pan = movingAxis) := by
  decide

theorem test_witness_lineSet : site.part.lineSet = site.part.sen.lines ∧ idleSite.part.lineSet = 252
    ∧ (site.withSen { siteSensed with image := Sensed.reset.image }).part.lineSet
        ≠ (site.withSen { siteSensed with image := Sensed.reset.image }).part.sen.lines := by decide

/-- A part with an output line 3 that is the BEACON, and LINES as the levels form it. -/
def beaconSite : State :=
  { site with part := { site.part with
    tab := { siteTables with lines := siteTables.lines.set 3 { LineRecord.plain with function := .beacon } }
    sen := { siteSensed with image := siteSensed.image.set 11 (QuantityRun.linesStart 252) }
    act := { siteActing with axes := { siteActing.axes with pan := movingAxis } } } }

/-- R23, R28: the line set is formed at each axis: pan's stop and tilt's start are two writes, and a write that
waits is taken by the arrivals. -/
theorem test_lineSet_formed_at_each_axis :
    let a := beaconSite.part.act.setAxes beaconSite.part.ctx ⟨readyAxis, readyAxis, movingAxis⟩
    beaconSite.part.act.lineWrites = [] ∧ beaconSite.part.lineSet = beaconSite.part.sen.lines
      ∧ a.lineWrites = [244, 252]
      ∧ ({ beaconSite.part with act := a } : Part).settle.act.lineWrites = [] := by decide

theorem test_witness_lampTestLinesSet :
    site.part.consumes console .lampTest [1, 0] ∧ yesNo 1 = some true ∧ yesNo 0 = some false
      ∧ site.part.consumes console .linesSet [255, 0] ∧ setIn 8 255 = some 255 ∧ setIn 8 0 = some 0 := by decide

theorem test_witness_outputs :
    let t : Tables := { siteTables with lines := ((((Tables.default 0).lines.set 1
      { LineRecord.plain with function := .output }).set 2 { LineRecord.plain with function := .mastLamp }).set 3
      { LineRecord.plain with function := .beacon }).set 4 { LineRecord.plain with function := .groupLamp } }
    (t.line 1).function = .output ∧ (t.line 2).function = .mastLamp ∧ (t.line 3).function = .beacon
      ∧ (t.line 4).function = .groupLamp := by decide

/-! ### Witnesses: rules -/

theorem test_witness_predicates :
    (siteSensed.image[(Rule.empty.operand)]).state = .fresh
      ∧ (siteSensed.image[({ Rule.empty with operand := 9 }.operand)]).state ≠ .fresh
      ∧ { Rule.empty with condition := .always }.condition = Condition.always := by decide

theorem test_witness_groupStep :
    let g : Group := { first := 0, last := 0, state := .clear, trueRun := 0, falseRun := 0 }
    let r : Rule := { Rule.empty with assertP := 1, releaseP := 2 }
    g.trueRun + 1 = r.assertP ∧ g.falseRun + 1 ≠ r.releaseP
      ∧ g.trueRun + 1 ≠ { r with assertP := 15 }.assertP ∧ g.falseRun + 1 = { r with releaseP := 1 }.releaseP := by
  decide

/-- A change that raises its event, and the two that raise none. -/
theorem test_witness_groupEvent :
    let old : Group := { first := 0, last := 0, state := .clear, trueRun := 0, falseRun := 0 }
    let new : Group := { old with state := .asserted }
    let rules := [{ Rule.empty with report := true }]
    (old.state ≠ new.state ∧ (new.lastRule rules).report = true) ∧ (new.lastRule [Rule.empty]).report = false
      ∧ siteActing.groupEvent site.part.ctx [Rule.empty] .nothing old new = siteActing
      ∧ ((siteActing.groupEvent site.part.ctx rules .nothing old new).out.tx.c.map (·.frame.payload))
        = some [1, 0, 1, 2, 0] := by decide

theorem test_witness_stopAll :
    site.part.ctx.sen.mode = .operating ∧ site.part.ctx.tab.ports.d.state ≠ .closed
      ∧ (faultAxis).state = .fault := by decide

/-- Actions triggered and not, in both modes, and each case of the two sequences. -/
theorem test_witness_actions :
    let old : Group := { first := 0, last := 0, state := .presumed, trueRun := 0, falseRun := 0 }
    let new : Group := { old with state := .asserted }
    let rules := [{ Rule.empty with action := .stopAll }]
    (old.state ≠ .asserted ∧ new.state = .asserted ∧ (new.lastRule rules).action = .stopAll)
      ∧ anyTriggers rules [(old, new)] .stopAll = true ∧ anyTriggers rules [(new, new)] .stopAll = false
      ∧ idleSite.part.ctx.sen.mode = .unconfigured
      ∧ lowerAllowed site.part.ctx siteActing = true ∧ lowerAllowed lowSite.part.ctx siteActing = false
      ∧ (siteActing.performSequence site.part.ctx true true).2 = { Performed.nothing with stow := true }
      ∧ (siteActing.performSequence site.part.ctx false true).2 = { Performed.nothing with lower := true } := by decide

/-- A STOW that its claim refuses, and one that it grants. -/
theorem test_witness_stowAction :
    claimChecks site.part.ctx .safety everyAxis (site.withAxes faultAxis).part.act = some .axisFault
      ∧ (((site.withAxes faultAxis).part.act.stowAction site.part.ctx).1.out.tx.c.map (·.frame.payload))
        = some [4, 1, 4, 14, 0]
      ∧ claimChecks site.part.ctx .safety everyAxis siteActing = none := by decide

/-- Groups of one rule, of several, and one that an unused rule ends. -/
theorem test_witness_groups :
    let join : Rule := { Rule.empty with used := true, join := .andNext }
    siteTables.startGroups = [{ first := 0, last := 0, state := .presumed, trueRun := 0, falseRun := 0 }]
      ∧ (formGroupsFrom 0 none [{ join with join := .alone }, join, { join with join := .alone }, join, Rule.empty, join]).map
        (fun g => (g.first, g.last)) = [(0, 0), (1, 2), (3, 3), (5, 5)] := by decide

theorem test_witness_bankSwap :
    (site.part.consumes console .bankSwap [0] ∧ bankOf (0 : Word).toInt = some .a ∧ site.part.tab.active = .a)
    ∧ (site.part.consumes console .bankSwap [1] ∧ bankOf (1 : Word).toInt = some .b ∧ site.part.tab.active ≠ .b
      ∧ ∃ r ∈ (site.part.tab.bank .b).toList, r.used = true)
    ∧ ∀ r ∈ (State.reset.part.tab.bank .b).toList, r.used = false := by decide

/-! ### Witnesses: axes -/

theorem test_witness_claims :
    movingAxis.state ≠ .atGoal ∧ (goalAxis.state = .atGoal ∧ goalAxis.goal = some (siteMotion.clampGoal 0))
      ∧ movingAxis.owner = .aim ∧ goalAxis.owner ≠ .aim := by decide

theorem test_witness_jog :
    (site.part.consumes console .jog [3, 10] ∧ axisOf (3 : Word).toInt = none)
    ∧ (site.part.consumes console .jog [2, 10] ∧ axisOf (2 : Word).toInt = some .tilt
      ∧ site.part.tab.mayMove console.src .tilt = true
      ∧ claimCheck site.part.ctx .jog .tilt site.part.act.axes.tilt = none)
    ∧ claimCheck idleSite.part.ctx .jog .tilt site.part.act.axes.tilt = some .notStarted
    ∧ (siteTables.setNode 1 { siteNode .c .maint with rights := 3 }).mayMove 1 .tilt = false := by decide

def toDrive : Header := { console with dst := 9 }

theorem test_witness_consoleDemand :
    site.part.admits toDrive.port (frameOf toDrive .demand [10])
      ∧ site.part.tab.bound toDrive.port toDrive.dst = .far (siteNode .d .drive)
      ∧ (site.part.tab.node toDrive.src).role.jogs = true ∧ site.part.tab.axisOfDrive 9 = some .pan
      ∧ site.part.tab.axisOfDrive 11 = none ∧ site.part.tab.mayMove toDrive.src .pan = true
      ∧ claimCheck site.part.ctx .jog .pan site.part.act.axes.pan = none := by decide

theorem test_witness_stop : ∃ named, site.part.consumes console .stop [3] ∧ namedAxes 3 = some named
    ∧ (0xFFFF : Word).toInt < 0 ∧ 3 < (4 : Word).toInt := ⟨_, by decide, rfl, by decide, by decide⟩

theorem test_witness_stop_axis : movingAxis.state = .moving ∧ faultAxis.state = .fault := by decide

theorem test_witness_clear : ∃ named, (site.withAxes faultAxis).part.consumes console .clear [1]
    ∧ namedAxes 1 = some named ∧ named .pan = true ∧ faultAxis.drive = .ready
    ∧ faultAxis.driveAge = .running 500000 ∧ (site.part.sen.image[positionOf .pan]).state = .fresh
    ∧ namedAxes 4 = none := ⟨_, by decide, rfl, rfl, rfl, rfl, by decide, rfl⟩

theorem test_witness_driveStatus :
    site.part.consumes drive .driveStatus [2, 7] ∧ driveStateOf (2 : Word).toInt = some .fault
      ∧ site.part.tab.axisOfDrive drive.src = some .pan ∧ movingAxis.state = .moving
      ∧ driveStateOf (1 : Word).toInt = some .notReady := by decide

theorem test_witness_servo :
    jogAxis.state = .jogging ∧ movingAxis.state = .moving ∧ goalAxis.state = .atGoal
      ∧ site.part.ctx.blocks .pan 50 = false
      ∧ (site.withSen { siteSensed with permit := 0 }).part.ctx.blocks .pan 50 = true
      ∧ goalAxis.rawDemand siteMotion 10 = 0 ∧ movingAxis.rawDemand siteMotion 100 ≠ 0 := by decide

def heldAxis : AxisRun := { readyAxis with state := .held, owner := .aim, goal := some 400 }

/-- Log 44: a HELD axis at its goal leaves HELD with its drive READY, and stays with it NOT_READY. -/
theorem test_heldAxis_driveNotReady :
    ({ heldAxis with goal := some 100 }.servo site.part.ctx .pan).state = .moving
      ∧ ({ heldAxis with goal := some 100, drive := .notReady }.servo site.part.ctx .pan).state = .held
      ∧ (heldAxis.servo site.part.ctx .pan).state = .moving
      ∧ ({ heldAxis with drive := .notReady }.servo site.part.ctx .pan).state = .held := by decide

/-- R88: the stall timer is stopped below the stall demand, starts at it from the present position, and runs on. -/
theorem test_servo_stallTimer :
    let c := site.part.ctx
    let fast : AxisRun := { movingAxis with goal := some 8000, vPrev := 400 }
    let started := fast.servo c .pan
    started.vPrev = 450 ∧ started.stallTimer = some 2000000 ∧ started.stallPos = some 100
      ∧ ({ fast with stallTimer := some 7, stallPos := some 1 }.servo c .pan).stallTimer = some 7
      ∧ ({ fast with vPrev := 0, stallTimer := some 7 }.servo c .pan).stallTimer = none
      ∧ ({ fast with state := .stopping, owner := .none, stallTimer := some 7 }.servo c .pan).stallTimer = some 7 := by
  decide

theorem test_witness_update :
    site.part.sen.held = false ∧ (site.part.act.axes.get .pan).updateTimer.isSome = true
      ∧ site.part.act.out.demandWaits .pan = false ∧ site.part.tab.ports.d.state ≠ .closed
      ∧ (site.withOut fun o => { o with driveQueue := [.demand .pan someFrame] }).part.act.out.demandWaits .pan
        = true := by decide

theorem test_witness_axisTimers :
    let r := jogAxis
    let g := site.part.tab.guard.pan
    (r.state = .jogging ∧ r.jogTimer.isSome = true)
    ∧ (r.stallTimer.isSome = true ∧ r.stallPos = some 0 ∧ (((0 : Int) - 0).natAbs < g.stallDist ∧ r.state ≠ .fault)
      ∧ g.stallDist ≤ ((20 : Int) - 0).natAbs)
    ∧ r.driveAge = .running 500000 ∧ faultAxis.driveAge = .running 500000 ∧ faultAxis.state = .fault := by decide

theorem test_witness_fault :
    goalAxis.owner = .search ∧ searching.part.act.search.state.running = true
      ∧ site.part.act.out.urgent.countP CEntry.isStatus = 0 ∧ site.part.sen.mode = .operating := by decide

theorem test_witness_permitLoss :
    movingAxis.vPrev ≠ 0 ∧ hasDirection 127 (directionOf .pan movingAxis.vPrev) = true
      ∧ hasDirection 0 (directionOf .pan movingAxis.vPrev) = false ∧ site.part.sen.permit ≠ 0 := by decide

/-- A permit set that differs from the one formed, and one that does not. -/
theorem test_witness_formPermit :
    site.part.sen.permit = site.part.ctx.permitSet ∧ site.part.formPermit = site.part
      ∧ (site.withSen { siteSensed with permit := 0 }).part.sen.permit
        ≠ (site.withSen { siteSensed with permit := 0 }).part.ctx.permitSet
      ∧ (site.withSen { siteSensed with permit := 0 }).part.formPermit.sen.permit = 127 := by decide

/-! ### Witnesses: pointing, search, sequencer -/

theorem test_witness_panGoal :
    panChoice { siteMotion with softMin := -20000, softMax := 20000 } 0 18000 = some 18000
      ∧ panChoice siteMotion 0 18000 = none := by decide

theorem test_witness_aim :
    site.part.consumes console .aim [3] ∧ finIn 15 3 = some 3
      ∧ aimChecks (site.entered console).ctx console.src siteTables.presets[3] (site.entered console).act = none
      ∧ aimChecks (site.entered console).ctx console.src siteTables.presets[4] (site.entered console).act
        = some .emptyPreset := by decide

/-- A search-after that waits, and one that is asked for: it starts, it is refused, and it finds a search running. -/
theorem test_witness_searchAfter :
    let c := site.part.ctx
    let aimed : AxisRun := { goalAxis with owner := .aim }
    let asks := fun (r : AxisRun) (f : SearchRun → SearchRun) =>
      ({ (site.withAxes r |>.withSearch f).part.act with
        pointing := { PointingRun.start with pending := some 1 } } : Acting).searchAfter c
    (asks movingAxis id).pointing.pending = some 1
      ∧ ((asks aimed id).pointing.pending = none ∧ (asks aimed id).search.state = .probing)
      ∧ ((asks aimed fun r => { r with state := .peaked }).search.state = .peaked
        ∧ (asks aimed fun r => { r with state := .peaked }).out.tx.c = none)
      ∧ searchChecks { c with sen := { c.sen with permit := 0 } } 1 (site.withAxes aimed).part.act = some .inhibited
      ∧ (16 : Word).toInt > 15 ∧ site.part.consumes console .aim [16] := by decide

theorem test_witness_goto :
    let goal := gotoGoals 9000 0x8000 0x8000
    site.part.consumes console .goto [9000, 0x8000, 0x8000]
      ∧ gotoChecks (site.entered console).ctx console.src goal (site.entered console).act = none
      ∧ gotoChecks (idleSite.entered console).ctx console.src goal (idleSite.entered console).act = some .notStarted := by
  decide

theorem test_witness_searchStart :
    (site.part.consumes console .searchStart []
      ∧ searchChecks (site.entered console).ctx console.src (site.entered console).act = none)
    ∧ searchChecks (searching.entered console).ctx console.src (searching.entered console).act = some .noChange := by
  decide

theorem test_witness_searchEnd :
    site.part.consumes console .searchEnd [] ∧ site.part.act.search.state = .idle
      ∧ searching.part.consumes console .searchEnd [] ∧ searching.part.act.search.state = .peaked
      ∧ suspended.part.sen.held = false ∧ suspended.part.act.search.timer.isSome = true
      ∧ suspended.part.act.search.state = .suspended := by decide

/-- The causes of suspension: one that enters in each state, and the last and another that leave. -/
theorem test_witness_causes :
    let lost := { SuspendCauses.empty with trackLost := true }
    let drop : SuspendCauses → SuspendCauses := fun k => { k with trackLost := false }
    (searching.part.act.search.state = .peaked ∧ suspended.part.act.search.state = .suspended
      ∧ site.part.act.search.state = .idle ∧ SearchState.probing ≠ .suspended)
    ∧ (drop .empty = SuspendCauses.empty ∧ drop lost ≠ lost ∧ drop lost = .empty
      ∧ drop { lost with levelStale := true } ≠ .empty)
    ∧ hasDirection 127 .track = true ∧ hasDirection 0 .track = false := by decide

/-- The search is told of pan's and tilt's changes: the ring goes when pan leaves AT_GOAL, and HELD is a cause. -/
theorem test_searchSeesAxes :
    let was := searching.part.act.axes
    let a := (searching.withSearch fun r => { r with state := .peaked, peak := some 300, ring := [300] }).part.act
    let moved : Acting := { a with axes := { was with pan := { goalAxis with state := .moving } } }
    let stopped : Acting := { a with axes := { was with tilt := { goalAxis with state := .held } } }
    (moved.searchSeesAxes site.part.ctx was).search.ring = []
      ∧ (moved.searchSeesAxes site.part.ctx was).search.state = .peaked
      ∧ (a.searchSeesAxes site.part.ctx was).search.ring = [300]
      ∧ (stopped.searchSeesAxes site.part.ctx was).search.causes = { SuspendCauses.empty with tiltHeld := true } := by
  decide

theorem test_witness_probes :
    let r : SearchRun := { SearchRun.start 50 with centre := some ⟨0, 0⟩, best := some ⟨0, 0⟩, failed := 1 }
    ((0 : Int) ≤ 500 ∧ siteMotion.softMin ≤ 0 ∧ 0 ≤ siteMotion.softMax) ∧ r.centre = some ⟨0, 0⟩
      ∧ (r.failed ≠ 0 ∧ r.noGain + 1 < 2 ∧ siteTables.search.smin < r.step)
      ∧ ({ r with step := 5 }.step ≤ siteTables.search.smin) := by decide

/-- R108: the failure step that ends a turn and a round at the least step leaves no failure in the present turn. -/
theorem test_failStep_lastRound :
    let r : SearchRun := { SearchRun.start 5 with failed := 1, noGain := 1, turn := .tilt }
    r.failStep SearchRecord.default = ({ r with noGain := 2, failed := 0 }, false) := by decide

def probing (f : SearchRun → SearchRun) : Acting :=
  ((site.withAxes goalAxis).withSearch fun r => f { r with
    state := .probing, purpose := .probe, centre := some ⟨0, 0⟩, best := some ⟨0, 0⟩, bestLevel := some 300
    probeGoal := some ⟨0, 0⟩ }).part.act

/-- A probe that is blocked and one that is not, the last probe within the limit, and a RETURN judged. -/
theorem test_witness_nextProbe :
    let a := probing id
    let shut : SearchRecord := { SearchRecord.default with maxProbes := 1 }
    a.search.probeAim siteTables ≠ ⟨0, 0⟩
      ∧ ({ a.search with best := some ⟨8500, 0⟩, centre := some ⟨8500, 0⟩ } : SearchRun).probeAim siteTables = ⟨8500, 0⟩
      ∧ (a.search.count + 1 ≤ shut.maxProbes ∧ shut.maxProbes < (a.search.count + 1) + 1)
      ∧ (probing fun r => { r with purpose := .returning }).returned = true ∧ a.returned = false
      ∧ (siteTables.search.floor ≤ (100 : Int) ∧ (99 : Int) < siteTables.search.floor) := by decide

/-- The last value of a measurement and of a ring, and the boundary of acceptance. -/
theorem test_witness_measurement :
    let n := siteTables.search.samples
    (probing id).dishStill = true ∧ siteActing.dishStill = false
      ∧ ([1, 2].length + 1 < n ∧ n ≤ [1, 2, 3].length + 1)
      ∧ meanLevel [1, 2, 3, 5] = 3 ∧ meanLevel [] = 0
      ∧ (300 + siteTables.search.improve ≤ (303 : Int) ∧ (302 : Int) < 300 + siteTables.search.improve)
      ∧ meanLevel [279, 279, 279, 279] < 300 - siteTables.search.repeakDrop
      ∧ 300 - siteTables.search.repeakDrop ≤ meanLevel [280, 280, 280, 280] := by decide

/-- Log 47: a re-search on drift starts with an empty ring. -/
theorem test_drift_emptiesRing :
    let a := (searching.withSearch fun r => { r with
      peak := some 300, centre := some ⟨0, 0⟩, best := some ⟨0, 0⟩, ring := [270, 270, 270, 270] }).part.act
    (a.drift site.part.ctx 270).search.ring = [] ∧ (a.drift site.part.ctx 270).search.repeaks = 1 := by decide

theorem test_witness_stow :
    (site.part.consumes console .stow [] ∧ site.part.sen.mode = .operating
      ∧ site.part.act.seq.state.stowing = false ∧ claimChecks site.part.ctx .safety everyAxis site.part.act = none)
    ∧ idleSite.part.sen.mode = .unconfigured
    ∧ claimChecks site.part.ctx .safety everyAxis (site.withAxes faultAxis).part.act = some .axisFault
    ∧ SequenceState.stowTilt.stowing = true := by decide

theorem test_witness_phase :
    let a : Acting := { siteActing with seq := { SequencerRun.start with state := .stowPan, timer := some 0 } }
    a.seq.state ≠ .idle ∧ a.seq.timer.isSome = true ∧ siteActing.seq.timer = none := by decide

/-- The phases: an axis that arrives and one that stood there; a phase claim refused, and granted to an axis that
has to move and to one at its stow position. -/
theorem test_witness_phases :
    let mine : AxisRun := { goalAxis with owner := .safety }
    (readyAxis.state ≠ .atGoal ∧ mine.state = .atGoal ∧ mine.owner = .safety)
      ∧ claimCheck site.part.ctx .safety .pan faultAxis = some .axisFault
      ∧ claimCheck site.part.ctx .safety .pan mine = none
      ∧ (mine.claimed siteMotion .safety site.part.tab.guard.pan.stowPos).state = .atGoal
      ∧ (readyAxis.claimed siteMotion .safety site.part.tab.guard.pan.stowPos).state = .moving
      ∧ claimCheck site.part.ctx .safety .mast siteActing.axes.mast = none := by decide

/-! ### Witnesses: link, admission, queues -/

theorem test_witness_readBack : workedAim.payload.length ≤ 14 := by decide

theorem test_witness_refill : site.part.sen.held = false ∧ site.part.sen.refillTimer.isSome = true := by decide

theorem test_witness_dropped :
    readWords true [1] = none
      ∧ readWords true (wireWords workedAim) = some workedAim
      ∧ (State.reset.part.received .c).arrivalCheck .c workedAim = some .unknownSource
      ∧ State.reset.part.act.out.dropA = none := by decide

/-- A frame that passes the checks for a node that is not present: UNKNOWN_DEST, with its tokens spent; and a frame
row whose frame fails a check. -/
theorem test_unknownDest :
    let nowhere : Header := { console with dst := 30 }
    let p := site.part.arrive .c (frameOf nowhere .aim [3])
    (Instr.aim nowhere [3]).arrival = some (.c, frameOf nowhere .aim [3])
      ∧ (site.part.received .c).arrivalCheck .c (frameOf nowhere .aim [3]) = none
      ∧ site.part.tab.bound .c 30 = .nowhere
      ∧ p.act.out.counters.c.unknownDest = 1 ∧ p.sen.meters[(1 : Fin 32)] = 15000
      ∧ (site.part.received .c).arrivalCheck .c (frameOf { console with src := 7 } .aim [3]) = some .unknownSource := by
  decide

/-- A drop with the first record empty and with it filled, and one whose event finds no place. -/
theorem test_dropped_records :
    let twice := State.reset.part.arriveWords .c true [1] |>.arriveWords .s true [1]
    let queued : Part := (State.reset.withOut fun o =>
      { o with tx := ⟨some sending, none, none⟩, urgent := List.replicate 16 ⟨.own, .frame someFrame⟩ }).part
    let shut := queued.arriveWords .c true [1]
    twice.act.out.dropA = some ⟨.badForm, .c, 0, 0⟩ ∧ twice.act.out.dropB = some ⟨.badForm, .s, 0, 0⟩
      ∧ twice.act.out.counters.s.badForm = 1
      ∧ 16 ≤ queued.act.out.waitingC ∧ shut.act.out.counters.c.queueFull = 1
      ∧ shut.act.out.urgent = queued.act.out.urgent := by decide

/-- The four cases of a destination. -/
theorem test_witness_bound :
    siteTables.bound .c 31 = .part ∧ siteTables.bound .c 24 = .part ∧ siteTables.bound .c 30 = .nowhere
      ∧ siteTables.bound .s 4 = .local ∧ siteTables.bound .c 9 = .far (siteNode .d .drive) := by decide

def toNeighbour : Header := { sensor with dst := 4 }
def toSensor : Header := { console with dst := 3 }

theorem test_witness_ignored :
    site.part.admits toNeighbour.port (frameOf toNeighbour .sample [0, 1])
      ∧ site.part.tab.bound toNeighbour.port toNeighbour.dst = .local := by decide

theorem test_witness_forward :
    site.part.admits toSensor.port (frameOf toSensor .nodeData [1])
      ∧ site.part.tab.bound toSensor.port toSensor.dst = .far (siteNode .s .sensor)
      ∧ kindAllowed (site.part.tab.node toSensor.src) .nodeData (.far (siteNode .s .sensor)) = true
      ∧ ¬((site.part.tab.ports.get .c).state = .listen ∨ (site.part.tab.ports.get .s).state ≠ .opened)
      ∧ site.part.act.out.sensorQueue.length < 4 ∧ site.part.act.out.waitingC < 16 := by decide

/-- A node whose frames are mirrored, and one whose frames are not. -/
theorem test_witness_mirror :
    let p : Part := { site.part with tab := siteTables.setNode 3 { siteNode .s .sensor with mirror := true } }
    p.consumes sensor .sample [8, 320] ∧ p.mirrors .s (frameOf sensor .sample [8, 320]) = true
      ∧ site.part.mirrors .s (frameOf sensor .sample [8, 320]) = false
      ∧ site.part.consumes drive .driveStatus [0, 0] := by decide

theorem test_witness_placements :
    let o : Output := { Output.start 100 with tx := ⟨some sending, none, some sending⟩, driveQueue := [.demand .pan someFrame] }
    o.tx.d.isSome = true ∧ o.demandWaits .pan = true ∧ o.demandWaits .mast = false ∧ o.waitingC < 16
      ∧ 16 ≤ ({ o with routine := List.replicate 16 ⟨.own, .status⟩ } : Output).waitingC := by decide

/-- An idle port C takes a frame at once; an event that is enabled and one that is not. -/
theorem test_witness_idlePlacement :
    let c := site.part.ctx
    let quiet : Ctx := { c with tab := { siteTables with report := { ReportRecord.default with enables := 0 } } }
    (siteActing.out.tx.c = none ∧ siteActing.out.urgent = [] ∧ siteActing.out.routine = [])
      ∧ (c.tab.report.enables &&& eventBit .axisFault) ≠ 0 ∧ (quiet.tab.report.enables &&& eventBit .axisFault) = 0
      ∧ (siteActing.raise quiet .axisFault [0]).out.tx.c = none
      ∧ (siteActing.raise quiet .axisFault [0]).out.seen = eventBit .axisFault
      ∧ ((siteActing.raise c .axisFault [0]).out.tx.c.map (·.frame.payload)) = some [2, 0] := by decide

theorem test_witness_completion :
    site.part.act.out.tx.get .c = none
      ∧ ((site.withOut fun o => { o with tx := ⟨some sending, none, none⟩, routine := [⟨.own, .status⟩] }).part.act.out.tx.get
        .c).isSome = true := by decide

theorem test_witness_statusRequest :
    site.part.consumes console .readStatus [] ∧ site.part.act.out.statusTimer.isSome = true
      ∧ site.part.act.out.tx.c = none ∧ site.part.act.out.routine = [] := by decide

/-- The twelve words of a STATUS at the site: OPERATING and bank A, every direction permitted, LINES 252, the three
positions, every axis STOPPED without owner, and no level; a position that is not fresh reads absent. -/
theorem test_statusWords :
    statusWords site.part.ctx siteActing = [1, 127, 252, 6000, 100, 0, 0, 0, 0, 0, 0, 0x8000]
      ∧ (statusWords (site.withSen (siteSensed.setQuantity 1 ((fresh 100).goStale))).part.ctx siteActing)[4]?
        = some 0x8000 := by decide

theorem test_witness_reads :
    site.part.consumes console .readCounters [2] ∧ portOf (2 : Word).toInt = some .d
      ∧ site.part.consumes console .readCounters [3] ∧ 2 < (3 : Word).toInt
      ∧ site.part.consumes console .readDrops [] ∧ site.part.consumes console .tableRead [13, 7] := by decide

/-- Frames of a wrong length, or with a word out of its range, that are consumed: one of each kind. -/
theorem test_witness_badValues :
    (∀ f ∈ ([(.reset, [1]), (.start, [0]), (.stow, [0]), (.searchStart, [0]), (.searchEnd, [0]), (.readStatus, [0]),
        (.readDrops, [0]), (.aim, []), (.aim, [16]), (.goto, [1, 2]), (.stop, [4]), (.clear, [1, 1]), (.bankSwap, [2]),
        (.readCounters, [3]), (.jog, [3, 0]), (.jog, [1]), (.linesSet, [256, 0]), (.lampTest, [2, 0]), (.lampTest, [0, 2]),
        (.tableRead, [1]), (.tableWrite, [1])] : List (Kind × List Word)),
      site.part.consumes console f.1 f.2)
    ∧ 15 < (16 : Word).toInt ∧ 3 < (4 : Word).toInt ∧ 1 < (2 : Word).toInt ∧ 255 < (256 : Word).toInt := by decide

/-- Each of them is answered BAD_VALUE, and nothing else is done. -/
theorem test_badValue_answers :
    (∀ f ∈ ([(.reset, [1]), (.bankSwap, [2]), (.lampTest, [2, 0]), (.readCounters, [3])] : List (Kind × List Word)),
      site.part.take (frameOf console f.1 f.2) = site.part.reply 1 f.1 .badValue []) := by decide

/-- Reads at both ends of a table, and just outside it. -/
theorem test_tableRead_bounds :
    let p := site.part
    (p.tableRead 1 31).1 = .done ∧ p.tableRead 1 32 = (.badIndex, []) ∧ p.tableRead 2 24 = (.badIndex, [])
      ∧ (p.tableRead 3 0).2.length = 13 ∧ p.tableRead 4 48 = (.badIndex, []) ∧ p.tableRead 5 3 = (.badIndex, [])
      ∧ p.tableRead 7 16 = (.badIndex, []) ∧ (p.tableRead 8 1).2.length = 13 ∧ p.tableRead 8 2 = (.badIndex, [])
      ∧ p.tableRead 9 1 = (.badIndex, []) ∧ p.tableRead 10 8 = (.badIndex, []) ∧ p.tableRead 11 (-1) = (.badIndex, [])
      ∧ p.tableRead 13 7 = (.done, [0, 0x8000, 0x8000, 0x8000, 0x8000, 0x8000]) ∧ p.tableRead 13 8 = (.badIndex, [])
      ∧ p.tableRead 14 0 = (.badTable, []) ∧ (p.sen.groupOf 0).isSome = true ∧ p.sen.groupOf 1 = none := by decide

/-! ### Witnesses: table writes -/

theorem test_witness_writeNode :
    let r : NodeEntry := { siteNode .c .maint with rights := 0, rate := 1000, burst := 64, cap := 7 }
    site.part.consumes console .tableWrite [1, 30, 1, 0, 0, 0, 0, 1000, 64, 7]
      ∧ (30 : Word).toInt = (30 : Fin 32).val ∧ (30 : Fin 32) ≠ site.part.tab.own
      ∧ readNode [1, 0, 0, 0, 0, 1000, 64, 7] = some r ∧ (site.part.tab.setNode 30 r).keepsMaint = true := by decide

theorem test_witness_writeRule :
    site.part.consumes console .tableWrite [ruleTable .b, 47, 1, 11, 9, 0, 0, 1, 1, 0, 0, 0]
      ∧ (47 : Word).toInt = (47 : Fin 48).val ∧ site.part.tab.active ≠ .b
      ∧ (readRule [1, 11, 9, 0, 0, 1, 1, 0, 0, 0]).isSome = true := by decide

theorem test_witness_writeMotion :
    site.part.consumes console .tableWrite [5, 1, 0xFF00, 100, 500, 50, 32, 10, 3, 20]
      ∧ axisOf (1 : Word).toInt = some .pan ∧ site.part.act.axes.pan.state = .stopped
      ∧ readMotion [0xFF00, 100, 500, 50, 32, 10, 3, 20]
        = some { MotionRecord.default with softMin := -256, softMax := 100 }
      ∧ (site.part.tab.quantity (positionOf .pan)).lo ≤ -256 ∧ 100 ≤ (site.part.tab.quantity (positionOf .pan)).hi := by
  decide

theorem test_witness_writePlain :
    (site.part.consumes console .tableWrite [7, 15, 1, 100, 0x8000, 0x8000, 0]
      ∧ (readPreset [1, 100, 0x8000, 0x8000, 0]).isSome = true)
    ∧ (site.part.consumes console .tableWrite [8, 0, 50, 5, 4, 3, 500, 100, 20, 120, 300]
      ∧ readSearch [50, 5, 4, 3, 500, 100, 20, 120, 300] = some .default)
    ∧ (site.part.consumes console .tableWrite [12, 0, 100, 63] ∧ readReport [100, 63] = some .default)
    ∧ (site.part.consumes console .tableWrite [13, 0] ∧ 12 < (13 : Word).toInt)
    ∧ site.part.consumes console .tableWrite [1] := by decide

/-- The checks of the table writes, each as the first that fails, and indices at the ends of their tables. -/
theorem test_tableWrite_results :
    let busy := (site.withAxes movingAxis).part
    let result := fun (p : Part) ws => (p.tableWrite ws).2
    result site.part [1, 31] = .badIndex ∧ result site.part [1, 24] = .badIndex
      ∧ result site.part [1, 1, 0, 0, 0, 0, 0, 1, 1, 0] = .selfCutoff
      ∧ result site.part [1, 1, 0, 0, 0, 0, 0, 0, 1, 0] = .badValue
      ∧ result site.part [2, 11] = .badIndex ∧ result site.part [2, 24] = .badIndex
      ∧ result site.part [2, 1, 0, 100, 50, 31] = .badValue ∧ result site.part [2, 8, 0, 100, 50, 24] = .badValue
      ∧ result site.part [3, 0] = .activeBank ∧ result site.part [4, 48] = .badIndex
      ∧ result busy [5, 1] = .inUse ∧ result busy [6, 1] = .inUse ∧ result site.part [5, 3] = .badIndex
      ∧ result site.part [6, 2, 8, 50, 300, 20, 20, 0, 100] = .badValue
      ∧ result site.part [7, 16] = .badIndex ∧ result searching.part [8, 0] = .inUse
      ∧ result site.part [9, 1] = .badIndex ∧ result site.part [12, 0, 9, 0] = .badValue
      ∧ result site.part [10, 0] = .fixedLine ∧ result site.part [10, 8] = .badIndex
      ∧ result site.part [10, 1, 2, 0, 0, 2] = .badValue
      ∧ result site.part [11, 0, 2, 0] = .selfCutoff ∧ result site.part [11, 2, 2, 0] = .inUse
      ∧ result site.part [11, 3] = .badIndex ∧ result site.part [13, 0] = .badTable := by decide

/-- Log 40: angles above 32767, of a HEADING pair and of a preset's bearing. -/
theorem test_angles_above_32767 :
    (State.reset.part.tab.quantity 3).reading 0x8C3C = 35900
      ∧ (State.reset.part.tab.quantity 3).reading 0x8000 = -32768
      ∧ (State.reset.part.tab.quantity 1).reading 0x8C3C = -29636
      ∧ (readPreset [1, 100, 0x8C9F, 200, 0]).map (·.bearing) = some (some 35999)
      ∧ (readPreset [1, 100, 0x8CA0, 200, 0]).isSome = false
      ∧ (readPreset [1, 100, 0x8000, 200, 0]).map (·.bearing) = some none := by decide

theorem test_witness_writeQuantity :
    let r : QuantityEntry := { lo := 0, hi := 200, maxAge := 50, source := 3 }
    site.part.consumes console .tableWrite [2, 8, 0, 200, 50, 3] ∧ (8 : Word).toInt = (8 : Fin 24).val
      ∧ readQuantity [0, 200, 50, 3] = some r ∧ r.source ≠ site.part.tab.own
      ∧ r.holdsLimits site.part.tab 8 = true ∧ (site.part.sen.image[(8 : Fin 24)]).state = .fresh
      ∧ ¬((site.part.sen.image[(8 : Fin 24)]).value ≤ r.hi) := by decide

/-- A QUANTITY whose kept value the new range holds changes the entry alone. -/
theorem test_writeQuantity_within :
    let r : QuantityEntry := { lo := 0, hi := 300, maxAge := 50, source := 3 }
    site.part.writeQuantity 8 [0, 300, 50, 3]
      = ({ site.part with tab := { siteTables with quantities := siteTables.quantities.set 8 r } }, .done) := by decide

theorem test_witness_writeGuard :
    (site.part.consumes console .tableWrite [6, 2, 12, 50, 300, 20, 20, 0, 100]
      ∧ axisOf (2 : Word).toInt = some .tilt ∧ site.part.act.axes.tilt.state = .stopped
      ∧ readGuard [12, 50, 300, 20, 20, 0, 100] = some (.default 12 0)
      ∧ (GuardRecord.default 12 0).drive ≠ site.part.tab.own
      ∧ (GuardRecord.default 12 0).drive ≠ site.part.tab.guard.tilt.drive
      ∧ site.part.tab.guard.mast.drive ≠ 12 ∧ site.part.tab.guard.pan.drive ≠ 12)
    ∧ readGuard [10, 50, 300, 20, 20, 0, 100] = some (.default 10 0)
    ∧ (GuardRecord.default 10 0).drive = site.part.tab.guard.tilt.drive := by decide

theorem test_witness_writePointing :
    let r : PointingRecord := { PointingRecord.default with clearHeight := 6000, safeHeight := 6000 }
    site.part.consumes console .tableWrite [9, 0, 0, 6000, 6000, 30, 120]
      ∧ readPointing [0, 6000, 6000, 30, 120] = some r
      ∧ (movingAxis.vPrev < 0 ∧ site.part.ctx.pos .mast ≤ r.clearHeight ∧ ¬(site.part.ctx.inStow .tilt = true))
      ∧ ¬(site.part.act.axes.mast.vPrev < 0) := by decide

theorem test_witness_writeLine :
    site.part.consumes console .tableWrite [10, 7, 2, 0, 0, 1] ∧ (7 : Word).toInt = (7 : Fin 8).val
      ∧ readLine [2, 0, 0, 1] = some { LineRecord.plain with function := .output, filter := 0, value := 1 }
      ∧ readLine [1, 1, 1, 0] = some { LineRecord.plain with invert := true }
      ∧ isInputFunction .output = false ∧ isInputFunction (site.part.tab.line 7).function = true
      ∧ (site.part.sen.filters[(7 : Fin 8)]).isSome = true := by decide

theorem test_witness_writePort :
    site.part.consumes console .tableWrite [11, 2, 1, 192] ∧ portOf (2 : Word).toInt = some .d
      ∧ readPort [1, 192] = some { PortRecord.default with state := .listen }
      ∧ readPort [2, 192] = some { PortRecord.default with state := .closed }
      ∧ site.part.sen.mode = .operating ∧ (site.part.tab.ports.get .d).state = .opened := by decide

/-! ### Witnesses: laws -/

/-- The premises of the laws every step keeps, at a state that steps. -/
theorem test_witness_laws :
    (∃ t, step State.reset = .next t) ∧ State.reset.part.axisLaw ∧ State.reset.part.freshLaw
      ∧ State.reset.part.rateLaw ∧ State.reset.part.restLaw ∧ State.reset.part.meterLaw ∧ State.reset.part.linesLaw := by
  refine ⟨⟨_, rfl⟩, ?_, ?_, ?_, ?_, ?_, ?_⟩ <;> decide

/-- A step that leaves OPERATING, by a RESET frame, and one that stays in it. -/
theorem test_witness_leavesOperating :
    let modeAfter := fun s : State => match step s with
      | .next t => some t.part.sen.mode
      | _ => none
    site.part.sen.mode = .operating
      ∧ modeAfter (site.withFront (.reset console [])) = some .unconfigured
      ∧ modeAfter (site.withFront (.reset console [1])) = some .operating
      ∧ (Instr.reset console []).arrival = some (.c, frameOf console .reset []) := by decide

/-- The law of fresh positions holds of axes that move, and fails of one whose position has gone STALE. -/
theorem test_freshLaw :
    (site.withAxes movingAxis).part.freshLaw
      ∧ ¬(site.withAxes movingAxis |>.withSen (siteSensed.setQuantity 1 ((fresh 100).goStale))).part.freshLaw
      ∧ (site.withSen (siteSensed.setQuantity 1 ((fresh 100).goStale))).part.freshLaw := by decide

theorem test_witness_queueLaw : State.reset.part.queueLaw ∧ State.reset.part.counterLaw := by
  refine ⟨⟨?_, ?_, ?_, ?_⟩, ?_⟩ <;> decide

/-! ### Corners of the rules -/

/-- R76: a HELD axis with raw demand 0 has that step counted, whatever its error: its run is 1. -/
theorem test_heldAxis_rawZero :
    let m := { siteMotion with gain := 1, deadband := 10, settleCount := 3 }
    heldAxis.rawDemand m 389 = 0 ∧ within m.deadband (heldAxis.error 389) = false
      ∧ (heldAxis.outcome m 389 0 0 false).state = .moving ∧ (heldAxis.outcome m 389 0 0 false).settle = 1
      ∧ (heldAxis.outcome { m with settleCount := 1 } 389 0 0 false).state = .atGoal := by decide

/-- R79: a moving axis is cut off and one in FAULT stays in it; neither may end as the other. -/
theorem test_cutOff :
    AxisRun.CutOff movingAxis movingAxis.cutOff ∧ AxisRun.CutOff faultAxis faultAxis.cutOff
      ∧ ¬AxisRun.CutOff movingAxis faultAxis ∧ ¬AxisRun.CutOff faultAxis readyAxis := by
  unfold AxisRun.CutOff
  refine ⟨?_, ?_, ?_, ?_⟩ <;> decide

/-- Log 24: the zeros of one event: the mast's is in transmission, then pan's waits, then tilt's. -/
theorem test_zeros_in_axis_order :
    let o := idleSite.part.starts.act.out
    o.tx.d.map (·.frame) = some (demandFrame siteTables .mast 0)
      ∧ o.driveQueue = [.demand .pan (demandFrame siteTables .pan 0), .demand .tilt (demandFrame siteTables .tilt 0)] := by
  decide

/-- The goals of a preset whose bearing pan reaches, and of one it does not; and which goals are clamped. -/
theorem test_aimGoals :
    let c := site.part.ctx
    let far := { PresetRecord.empty with present := true, bearing := some 18000 }
    axisList.map (aimGoals c siteTables.presets[3]) = [some 5000, some 1000, some 200]
      ∧ axisList.map (aimGoals c far) = [none, none, none]
      ∧ anyClamped siteTables (gotoGoals 9000 0x8000 0x8000) = true
      ∧ anyClamped siteTables (aimGoals c siteTables.presets[3]) = false := by decide

/-- R129: a STOW that starts over a running LOWER ends it ABORTED, with its record and its event, which waits
behind the STATUS of the claims. -/
theorem test_stow_ends_lower :
    let a := ({ siteActing with seq := { SequencerRun.start with state := .lowering, timer := some 5 } } : Acting).startStow
      site.part.ctx
    a.seq.state = .stowTilt ∧ a.seq.lastName = .lower ∧ a.seq.lastOutcome = .aborted
      ∧ a.out.urgent = [⟨.own, .frame (eventFrame siteTables .sequenceEnd [2, 2, 0, 4])⟩] := by decide

/-- A timeout of a phase: the sequence ends FAILED with PHASE_TIMEOUT and its event. -/
theorem test_phase_timeout :
    let a := ({ siteActing with seq := { SequencerRun.start with state := .stowPan, timer := some 0 } } : Acting).timeoutSequence
      site.part.ctx
    a.seq.state = .idle ∧ a.out.tx.c.map (·.frame.payload) = some [4, 1, 3, 1, 2] := by decide

/-- The pairs of one frame: each is taken in its turn, and the last value stays. -/
theorem test_takePairs :
    let p := site.part.takePairs 3 [8, 320, 8, 340, 7, 1]
    (p.sen.image[(8 : Fin 24)]).value = 340 ∧ p = (site.part.takePairs 3 [8, 320]).takePairs 3 [8, 340, 7, 1]
      ∧ site.part.takePairs 3 [] = site.part := by decide

theorem test_filterTimes : filterTime 0 = 0 ∧ filterTime 1 = 4 ∧ filterTime 2 = 16 ∧ filterTime 3 = 64 := by decide

/-- A write of LISTEN to port D: its own DEMAND stays, the forwarded frame is a PORT_CLOSED drop, and port S's
queue is as it was. -/
theorem test_writePort_judges :
    let p := (site.withOut fun o => { o with
      tx := ⟨none, none, some sending⟩
      driveQueue := [.data someFrame, .demand .pan (demandFrame siteTables .pan 0)], sensorQueue := [someFrame] }).part
    let q := (p.tableWrite [11, 2, 1, 192]).1
    q.act.out.driveQueue = [.demand .pan (demandFrame siteTables .pan 0)] ∧ q.act.out.sensorQueue = [someFrame]
      ∧ q.act.out.counters.d.portClosed = 1 ∧ q.act.out.dropA = some (dropOf .portClosed .d someFrame) := by decide

/-- A full port C: a STATUS that is asked for finds no place, and the event of that drop, as of any first one,
displaces the newest ROUTINE frame. -/
theorem test_fullPortC :
    let full : Output := { Output.start 100 with
      tx := ⟨some sending, none, none⟩, routine := List.replicate 16 ⟨.own, .frame someFrame⟩ }
    let asked := ({ siteActing with out := full } : Acting).requestStatus site.part.ctx
    let dropped := full.drop siteTables [] (dropOf .overRate .s someFrame)
    asked.out.counters.c.queueFull = 2 ∧ asked.out.dropA.map (·.kind) = some (kindCode .status)
      ∧ asked.out.dropB = some (dropOf .queueFull .c someFrame) ∧ dropped.routine.length = 15 ∧ dropped.urgent.length = 1
      ∧ dropped.dropA = some (dropOf .overRate .s someFrame) ∧ dropped.dropB = some (dropOf .queueFull .c someFrame) := by
  decide

/-- The pairs of a SAMPLE: an even count, with ids neither 11 nor above 23. -/
theorem test_samplePairs :
    samplePairsOk [8, 320, 23, 0] = true ∧ samplePairsOk [8] = false ∧ samplePairsOk [11, 0] = false
      ∧ samplePairsOk [24, 0] = false ∧ samplePairsOk [0xFFFF, 0] = false
      ∧ receivedSource [0xC0A8] = 2 ∧ receivedKind [0xC0A8, 0x1010] = 0x10 := by decide

/-- R88: a JOG on a moving axis and a goal claim on a jogging one keep the stall timer and its position; a release
stops the timer. -/
theorem test_stallTimer_kept :
    let watched : AxisRun := { movingAxis with stallTimer := some 7, stallPos := some 12 }
    let jogged := watched.jogged siteMotion site.part.tab.pointing 30
    let back := jogged.claimed siteMotion .aim 200
    (jogged.stallTimer = some 7 ∧ jogged.stallPos = some 12 ∧ jogged.state = .jogging)
      ∧ (back.stallTimer = some 7 ∧ back.stallPos = some 12 ∧ back.state = .moving)
      ∧ watched.released.stallTimer = none := by decide

/-- R111: a start from AT_GOAL leaves pan and tilt there; one from STOPPED has them MOVING where they stand; either
drops a pending search-after. -/
theorem test_beginSearch_axes :
    let still := { (site.withAxes { goalAxis with owner := .aim }).part.act with
      pointing := { PointingRun.start with pending := some 1 } }
    let a := still.beginSearch site.part.ctx
    let b := siteActing.beginSearch site.part.ctx
    a.axes.pan.state = .atGoal ∧ a.axes.pan.owner = .search ∧ a.pointing.pending = none
      ∧ b.axes.pan.state = .moving ∧ b.axes.pan.goal = some 100 ∧ b.axes.tilt.goal = some 0 := by decide

/-- R174: a completion on port D counts one frame as sent and leaves port C and the drop records as they were. -/
theorem test_completion_leaves :
    let o : Output := { Output.start 100 with
      tx := ⟨some sending, none, some sending⟩, driveQueue := [.data someFrame], routine := [⟨.own, .frame someFrame⟩]
      seen := 5 }
    let n := o.complete siteTables [] .d
    n.counters.d.sent = 1 ∧ n.counters.c = o.counters.c ∧ n.driveQueue = [] ∧ n.routine = o.routine ∧ n.seen = 5
      ∧ n.tx.c = o.tx.c ∧ n.tx.d.map (·.frame) = some someFrame ∧ n.dropA = none := by decide

/-! ### One step -/

theorem test_idle_step_elapses : (step State.reset matches .next _) = true := by rfl

theorem test_noWord_spells_a_command : State.reset.withFetchWord 16 5 = State.reset := rfl

theorem test_goalClamped : siteMotion.clampGoal 9000 = 8500 ∧ siteMotion.clampGoal (-5000) = -1800 := by decide

theorem test_servo_slews : ({ movingAxis with vPrev := 0 }.servo site.part.ctx .pan).vPrev = 50 := by decide

end Sys2Proof.Machine
end

section
/-! SUPPORT. The counters of the output side (R164): which operations leave them as they were, and that every
operation keeps each of them within its maximum. -/

namespace Sys2Proof.Machine

/-- R164 at every port: no counter is above its maximum. -/
def Output.Bounded (o : Output) : Prop := ∀ k : Port, (o.counters.get k).bounded

theorem bumpTo_le {limit n : Nat} (h : n ≤ limit) : bumpTo limit n ≤ limit := by
  unfold bumpTo
  split <;> omega

/-! ### One port's counters -/

theorem Counters.bump_bounded {k : Counters} (h : k.bounded) (r : DropReason) : (k.bump r).bounded := by
  obtain ⟨h1, h2, h3, h4, h5, h6, h7, h8, h9, h10⟩ := h
  cases r <;> refine ⟨h1, h2, ?_, ?_, ?_, ?_, ?_, ?_, ?_, ?_⟩ <;>
    first | assumption | exact bumpTo_le (by assumption)

theorem Counters.zero_bounded : Counters.zero.bounded := by decide

/-! ### Operations that count nothing -/

@[simp] theorem Output.transmitC_counters (t : Tables) (v : List Word) (e : CEntry) (o : Output) :
    (o.transmitC t v e).counters = o.counters := by
  unfold Output.transmitC
  split <;> rfl

@[simp] theorem Output.takeNext_counters (t : Tables) (v : List Word) (k : Port) (o : Output) :
    (o.takeNext t v k).counters = o.counters := by
  cases k <;> simp only [Output.takeNext] <;> split <;> simp

@[simp] theorem Output.startIfIdle_counters (t : Tables) (v : List Word) (k : Port) (o : Output) :
    (o.startIfIdle t v k).counters = o.counters := by
  unfold Output.startIfIdle
  split <;> simp

@[simp] theorem Output.insertC_counters (u : Bool) (e : CEntry) (o : Output) :
    (o.insertC u e).1.counters = o.counters := by
  unfold Output.insertC
  repeat' split
  all_goals rfl

namespace Output.Bounded

variable {o : Output}

/-- An output side with the same counters. -/
theorem congr {o' : Output} (h : o.Bounded) (e : o'.counters = o.counters) : o'.Bounded := by
  intro k
  rw [e]
  exact h k

/-- One port's counters change. -/
theorem set (h : o.Bounded) (k : Port) {n : Counters} (hn : n.bounded) :
    Output.Bounded { o with counters := o.counters.set k n } := by
  intro j
  by_cases e : j = k
  · subst e
    simpa only [PerPort.get_set_self] using hn
  · simpa only [PerPort.get_set_of_ne _ e] using h j

theorem start (period : Nat) : (Output.start period).Bounded := by
  intro k
  cases k <;> exact Counters.zero_bounded

theorem countReceived (h : o.Bounded) (k : Port) : (o.countReceived k).Bounded := by
  obtain ⟨h1, hs⟩ := h k
  exact h.set k ⟨bumpTo_le h1, hs⟩

theorem countSent (h : o.Bounded) (k : Port) : (o.countSent k).Bounded := by
  obtain ⟨h1, h2, hs⟩ := h k
  exact h.set k ⟨h1, bumpTo_le h2, hs⟩

theorem noteDrop (h : o.Bounded) (d : DropRecord) : (o.noteDrop d).Bounded := by
  have h' := h.set d.port (Counters.bump_bounded (h d.port) d.reason)
  unfold Output.noteDrop
  dsimp only
  repeat' split
  all_goals exact h'.congr rfl

theorem placeQuiet (h : o.Bounded) (t : Tables) (v : List Word) (u : Bool) (e : CEntry) :
    (o.placeQuiet t v u e).Bounded := by
  have h' : ((o.insertC u e).1.startIfIdle t v .c).Bounded := h.congr (by simp)
  unfold Output.placeQuiet
  dsimp only
  split
  · exact h'.noteDrop _
  · exact h'

theorem drop (h : o.Bounded) (t : Tables) (v : List Word) (d : DropRecord) : (o.drop t v d).Bounded := by
  have h' : ((o.noteDrop d).see .dropRecorded).Bounded := (h.noteDrop d).congr rfl
  unfold Output.drop
  dsimp only
  split
  · split
    · exact h'.placeQuiet t v _ _
    · exact h'
  · exact h.noteDrop d

theorem placeC (h : o.Bounded) (t : Tables) (v : List Word) (u : Bool) (e : CEntry) : (o.placeC t v u e).Bounded := by
  have h' : ((o.insertC u e).1.startIfIdle t v .c).Bounded := h.congr (by simp)
  unfold Output.placeC
  dsimp only
  split
  · exact h'.drop t v _
  · exact h'

theorem raise (h : o.Bounded) (t : Tables) (v : List Word) (k : EventKind) (ws : List Word) :
    (o.raise t v k ws).Bounded := by
  have h' : (o.see k).Bounded := h.congr rfl
  unfold Output.raise
  dsimp only
  split
  · exact h'.placeC t v _ _
  · exact h'

theorem reply (h : o.Bounded) (t : Tables) (v : List Word) (n : Node) (k : Kind) (r : Result) (ws : List Word) :
    (o.reply t v n k r ws).Bounded := h.placeC t v _ _

theorem requestStatus (h : o.Bounded) (t : Tables) (v : List Word) : (o.requestStatus t v).Bounded := by
  unfold Output.requestStatus
  split
  · exact h
  · exact h.placeC t v _ _

theorem sendDemand (h : o.Bounded) (t : Tables) (v : List Word) (x : Axis) (rate : Int) :
    (o.sendDemand t v x rate).Bounded := by
  unfold Output.sendDemand
  dsimp only
  split
  · exact h.drop t v _
  · exact h.congr (by simp)

theorem forward (h : o.Bounded) (t : Tables) (v : List Word) (k : Port) (f : Frame) :
    (o.forward t v k f).Bounded := by
  cases k
  · exact h.placeC t v _ _
  all_goals
    simp only [Output.forward]
    split
    · exact h.congr (by simp)
    · exact h.drop t v _

theorem mirror (h : o.Bounded) (t : Tables) (v : List Word) (f : Frame) : (o.mirror t v f).Bounded := h.placeC t v _ _

theorem dropAll (h : o.Bounded) (t : Tables) (v : List Word) (ds : List DropRecord) : (o.dropAll t v ds).Bounded := by
  unfold Output.dropAll
  induction ds generalizing o with
  | nil => exact h
  | cons d ds ih => exact ih (h.drop t v d)

theorem judgeWaiting (h : o.Bounded) (t : Tables) (v : List Word) (k : Port) (st : PortState) :
    (o.judgeWaiting t v k st).Bounded := by
  cases st
  · exact h
  all_goals
    cases k <;>
      · simp only [Output.judgeWaiting]
        refine dropAll ?_ t v _
        exact h.congr rfl

theorem complete (h : o.Bounded) (t : Tables) (v : List Word) (k : Port) : (o.complete t v k).Bounded := by
  unfold Output.complete
  split
  · have h' : Output.Bounded { o with tx := o.tx.set k none } := h.congr rfl
    exact (h'.countSent k).congr (by simp)
  · exact h

end Output.Bounded

/-- A change of axis records, with the DEMANDs and the STATUS requests it sends, keeps the counters bounded. -/
theorem Acting.shift_bounded {c : Ctx} {a : Acting} (h : a.out.Bounded) (rate : Axis → Option Int)
    (f : Axis → AxisRun → AxisRun) : (a.shift c rate f).out.Bounded := by
  have demand : ∀ (b : Acting) (x : Axis), b.out.Bounded → (match rate x with
      | some v => b.emit c fun t w o => o.sendDemand t w x v
      | none => b).out.Bounded := by
    intro b x hb
    split
    · exact hb.sendDemand _ _ _ _
    · exact hb
  have report : ∀ (b : Acting) (q : Prop) [Decidable q], b.out.Bounded →
      (if q then b else b.requestStatus c).out.Bounded := by
    intro b q _ hb
    split
    · exact hb
    · exact hb.requestStatus _ _
  simp only [Acting.shift, Acting.reportAxes, Acting.sendDemands, axisList, List.foldl]
  refine report _ _ (report _ _ (report _ _ (demand _ _ (demand _ _ (demand _ _ ?_)))))
  simpa only [Acting.setAxes_out] using h

/-- Every change of the acting side keeps the counters bounded. -/
theorem Acting.Reach.bounded {c : Ctx} {a b : Acting} (h : Acting.Reach c a b) (h0 : a.out.Bounded) : b.out.Bounded :=
  h.keeps (P := fun d => d.out.Bounded) h0 (fun _ rate f _ hd => Acting.shift_bounded hd rate f)
    (fun _ _ _ _ hd => hd) (fun _ _ hd => hd) (fun _ _ hd => hd) (fun _ _ hd => hd)
    (fun _ k ws hd => hd.raise _ _ k ws) (fun _ hd => hd.requestStatus _ _)
    (fun _ n k r ws hd => hd.reply _ _ n k r ws)

end Sys2Proof.Machine
end

section
/-! SUPPORT. Laws that every step keeps. A law of the part is *steady* when the blocks that follow an event keep
it (the groups, the permit set, the line set's arrivals and all that axis control, the search, pointing and the
sequencer do), and *stable* when the writes of the commands keep it too. `Part.Stable.step` is the one induction
over the commands: a stable law is kept by every step. -/

namespace Sys2Proof.Machine

/-- A law that the hand-offs of an event keep. It does not speak of what the part senses but the image and the
meters. -/
structure Part.Steady (P : Part → Prop) : Prop where
  sense : ∀ {p q : Part}, P p → q.tab = p.tab → q.act = p.act → q.sen.image = p.sen.image →
    q.sen.meters = p.sen.meters → P q
  reach : ∀ (p : Part) (a : Acting), Acting.Reach p.ctx p.act a → P p → P { p with act := a }
  form : ∀ p : Part, P p → P p.formLines
  lines : ∀ (p : Part) (v : Int), (v ∈ p.act.lineWrites ∨ ∃ level, v = lineNumber level) → P p →
    P { p with sen := p.sen.writeLines v }
  rest : ∀ (p : Part) (vs : List Int), vs ⊆ p.act.lineWrites → P p →
    P { p with act := { p.act with lineWrites := vs } }

namespace Part.Steady

variable {P : Part → Prop} {p : Part}

theorem acting (h : Part.Steady P) {f : Ctx → Acting → Acting} (hf : ∀ c a, Acting.Reach c a (f c a)) (hp : P p) :
    P (p.acting f) := h.reach p _ (hf _ _) hp

theorem formPermit (h : Part.Steady P) (hp : P p) : P p.formPermit :=
  Part.formPermit_keeps (fun _ hq => h.sense hq rfl rfl rfl rfl) h.reach hp

theorem groups (h : Part.Steady P) (p : Part) (gs : List Group) (hp : P p) :
    P ({ p with sen := { p.sen with groups := gs } } : Part).formLines.formPermit :=
  h.formPermit (h.form _ (h.sense hp rfl rfl rfl rfl))

theorem evaluate (h : Part.Steady P) (concerned : Group → Bool) (hp : P p) : P (p.evaluate concerned) :=
  Part.evaluate_keeps h.groups h.reach concerned hp

theorem settle (h : Part.Steady P) (hp : P p) : P p.settle :=
  Part.settle_keeps h.form
    (fun q v vs e hq =>
      h.rest { q with sen := q.sen.writeLines v } vs (by simp [e]) (h.lines q v (.inl (by simp [e])) hq))
    h.groups h.reach hp

/-- The line set, as the levels form it, is written into LINES as one arrival. -/
theorem takeLines (h : Part.Steady P) (q : Part) (hp : P p) : P (p.takeLines q.lineSet) :=
  Part.takeLines_keeps (h.lines p _ (.inr ⟨q.lineLevel, rfl⟩) hp) h.groups h.reach

theorem valueTaken (h : Part.Steady P) (q : Fin 24) (v : Int) (hp : P p) : P (p.valueTaken q v) := by
  have told : P (p.formLines.evaluateFor q) := h.evaluate _ (h.form p hp)
  unfold Part.valueTaken
  dsimp only
  split
  · exact h.settle (h.acting (fun _ a => .searchLevel a v) told)
  · exact h.settle told

theorem wentStale (h : Part.Steady P) (q : Fin 24) (hp : P p) : P (p.wentStale q) := by
  have told : P (p.formLines.evaluateFor q) := h.evaluate _ (h.form p hp)
  have axis : P (match axisOfQuantity q with
      | some .mast => (p.formLines.evaluateFor q).acting fun c a => a.losePosition c .mast
      | some x => ((p.formLines.evaluateFor q).acting fun c a => a.losePosition c x).acting Acting.guardMast
      | none => p.formLines.evaluateFor q) := by
    split
    · exact h.acting (fun _ a => .losePosition a .mast) told
    next x _ _ => exact h.acting (fun _ a => .guardMast a) (h.acting (fun _ a => .losePosition a x) told)
    · exact told
  unfold Part.wentStale
  dsimp only
  split
  · exact h.acting (fun _ a => .enterCause a _) axis
  · exact axis

theorem estopChanged (h : Part.Steady P) (hp : P p) : P p.estopChanged := by
  unfold Part.estopChanged
  dsimp only
  refine h.acting (fun _ a => .raise a _ _) (h.formPermit ?_)
  split
  · exact h.acting (fun _ a => .cutOffAll a) hp
  · exact hp

theorem sampleLines (h : Part.Steady P) (pins : BitVec 8) (hp : P p) : P (p.sampleLines pins) := by
  have formed : ∀ n : Sensed, n.image = p.sen.image → n.meters = p.sen.meters →
      P ({ p with sen := n } : Part).formLines := fun n hi hm => h.form _ (h.sense hp rfl rfl hi hm)
  unfold Part.sampleLines
  dsimp only
  split
  · exact formed _ rfl rfl
  · exact h.estopChanged (formed _ rfl rfl)

/-- A command acts on a part, and the line set's arrivals follow. -/
theorem live (h : Part.Steady P) {f : Part → Part} (hf : P p → P (f p)) (hp : P p) : P (p.live f) := by
  unfold Part.live
  split
  · exact hp
  · exact h.settle (hf hp)

end Part.Steady

/-! ### Stable laws -/

/-- A law that the writes of the commands keep too. LINES, quantity 11, is never named by a pair or a write; its
age cannot run out where it has none. -/
structure Part.Stable (P : Part → Prop) : Prop extends Part.Steady P where
  out : ∀ {p q : Part}, P p → q.tab = p.tab → q.sen = p.sen → q.act = { p.act with out := q.act.out } →
    (p.act.out.Bounded → q.act.out.Bounded) → P q
  tables : ∀ (p : Part) (t : Tables), t.straps = p.tab.straps → t.nodes = p.tab.nodes →
    t.quantities = p.tab.quantities → t.motion = p.tab.motion → P p → P { p with tab := t }
  taken : ∀ (p : Part) (q : Fin 24) (e : QuantityEntry) (v : Int), q ≠ 11 → P p →
    P { p with sen := p.sen.setQuantity q ((p.sen.image[q]).take e v) }
  faulted : ∀ (p : Part) (q : Fin 24), q ≠ 11 → P p → P { p with sen := p.sen.setQuantity q (p.sen.image[q]).fault }
  stale : ∀ (p : Part) (q : Fin 24), (q ≠ 11 ∨ (p.sen.image[q]).age.isSome = true) → P p →
    P (({ p with sen := p.sen.setQuantity q (p.sen.image[q]).goStale } : Part).wentStale q)
  spend : ∀ (p : Part) (n : Node), P p → P { p with sen := p.sen.spend n }
  refill : ∀ p : Part, P p → P p.refill
  node : ∀ (p : Part) (n : Node) (e : NodeEntry), n.val ≤ 30 → n ≠ p.tab.own → P p →
    P { p with tab := p.tab.setNode n e, sen := { p.sen with meters := p.sen.meters.set n e.capacity } }
  quantity : ∀ (p : Part) (q : Fin 24) (e : QuantityEntry), q ≠ 11 → e.holdsLimits p.tab q = true → P p →
    P (p.tabled fun t => { t with quantities := t.quantities.set q e })
  motion : ∀ (p : Part) (x : Axis) (m : MotionRecord), (p.act.axes.get x).state.writable = true →
    m.softMin ≤ m.softMax → (p.tab.quantity (positionOf x)).lo ≤ m.softMin →
    m.softMax ≤ (p.tab.quantity (positionOf x)).hi → P p → P (p.tabled fun t => { t with motion := t.motion.set x m })
  warm : ∀ p : Part, P p → P p.warm
  powerOn : ∀ (straps : BitVec 2) (pins : BitVec 8),
    P { tab := Tables.default straps, sen := Sensed.powerOn (Tables.default straps) pins, act := Acting.start 50 100 }
  pass : ∀ (d : Nat) (p : Part), P p → P (p.pass d)

/-- What a command that acts on the part leaves. -/
theorem State.run_next {f : Part → Part} {s s' : State} (h : s.run f = .next s') : s'.part = s.part.live f := by
  rw [← Host.Outcome.next.inj h]

theorem readMotion_ordered {ws : List Word} {m : MotionRecord} (h : readMotion ws = some m) :
    m.softMin ≤ m.softMax := by
  unfold readMotion at h
  split at h
  · simp only [Option.bind_eq_bind, Option.bind_eq_some_iff] at h
    obtain ⟨_, _, _, _, _, _, _, _, _, _, _, _, h⟩ := h
    split at h
    next lt =>
      cases h
      exact Int.le_of_lt lt
    · cases h
  · cases h

/-- R145: the pairs of a well-formed SAMPLE do not name LINES. -/
theorem samplePairsOk_ne_lines {id v : Word} {rest : List Word} (h : samplePairsOk (id :: v :: rest) = true) :
    (Fin.ofNat 24 id.toNat : Fin 24) ≠ 11 ∧ samplePairsOk rest = true := by
  simp only [samplePairsOk, Bool.and_eq_true, decide_eq_true_eq] at h
  obtain ⟨⟨⟨h0, h1⟩, h2⟩, h3⟩ := h
  refine ⟨fun e => h2 ?_, h3⟩
  have e' : id.toNat % 24 = 11 := congrArg Fin.val e
  have := BitVec.toInt_eq_toNat_cond id
  have := id.isLt
  split at * <;> omega

namespace Part.Stable

variable {P : Part → Prop} {p : Part}

theorem emit (h : Part.Stable P) {f : Tables → List Word → Output → Output}
    (hf : ∀ t v o, o.Bounded → (f t v o).Bounded) (hp : P p) : P (p.acting fun c a => a.emit c f) :=
  h.out hp rfl rfl rfl (hf _ _ _)

theorem reply (h : Part.Stable P) (n : Node) (k : Kind) (r : Result) (ws : List Word) (hp : P p) :
    P (p.reply n k r ws) := h.acting (fun _ a => .reply a n k r ws) hp

theorem answer (h : Part.Stable P) (f : Frame) {r : Part × Result} (hr : P r.1) : P (answer f r) :=
  h.reply _ _ _ _ hr

theorem doing (h : Part.Stable P) {f : Ctx → Acting → Acting × Result} (hf : ∀ c a, Acting.Reach c a (f c a).1)
    (hp : P p) : P (p.doing f).1 := h.reach p _ (hf _ _) hp

theorem drop (h : Part.Stable P) (d : DropRecord) (hp : P p) : P (p.drop d) :=
  h.emit (fun t v _ ho => ho.drop t v d) hp

/-! ### The sensor image -/

theorem takePair (h : Part.Stable P) (sender : Node) {q : Fin 24} (v : Int) (hq : q ≠ 11) (hp : P p) :
    P (p.takePair sender q v) := by
  unfold Part.takePair
  dsimp only
  split
  · exact h.valueTaken q v (h.taken p q _ v hq hp)
  · exact h.faulted p q hq hp

theorem takePairs (h : Part.Stable P) (sender : Node) :
    ∀ (ws : List Word) (q : Part), samplePairsOk ws = true → P q → P (q.takePairs sender ws)
  | [], _, _, hp => hp
  | [_], _, _, hp => hp
  | _ :: _ :: rest, _, hw, hp =>
    have hn := samplePairsOk_ne_lines hw
    takePairs h sender rest _ hn.2 (h.takePair sender _ hn.1 hp)

theorem ageExpired (h : Part.Stable P) (q : Fin 24) (hp : P p) : P (p.ageExpired q) := by
  unfold Part.ageExpired
  dsimp only
  split
  next ha => exact h.stale p q (.inr ha) hp
  · exact hp

/-! ### The table writes -/

theorem writeNode (h : Part.Stable P) (i : Int) (fs : List Word) (hp : P p) : P (p.writeNode i fs).1 := by
  unfold Part.writeNode
  dsimp only
  split
  · exact hp
  next hi =>
    split
    · exact hp
    next e _ =>
      split
      · exact hp
      · simp only [indexIn, Bool.or_eq_true, Bool.not_eq_true', Bool.and_eq_false_iff, decide_eq_false_iff_not,
          decide_eq_true_eq, not_or, not_not] at hi
        refine h.node p _ e ?_ hi.2 hp
        simp only [Fin.val_ofNat]
        omega

theorem rangeChanged (h : Part.Stable P) {q : Fin 24} (e : QuantityEntry) (hq : q ≠ 11) (hp : P p) :
    P (p.rangeChanged q e) := by
  unfold Part.rangeChanged
  dsimp only
  split
  · exact h.stale p q (.inl hq) hp
  · exact hp

theorem writeQuantity (h : Part.Stable P) (i : Int) (fs : List Word) (hp : P p) : P (p.writeQuantity i fs).1 := by
  unfold Part.writeQuantity
  dsimp only
  split
  · exact hp
  next hi =>
    split
    · exact hp
    next e _ =>
      split
      · exact hp
      next hs =>
        simp only [indexIn, Bool.or_eq_true, Bool.not_eq_true', Bool.and_eq_false_iff, decide_eq_false_iff_not,
          decide_eq_true_eq, not_or, not_not] at hi
        have hq : (Fin.ofNat 24 i.toNat : Fin 24) ≠ 11 := by
          intro e
          have : i.toNat % 24 = 11 := congrArg Fin.val e
          omega
        exact h.rangeChanged e hq (h.quantity p _ e hq (by simpa using (not_or.1 hs).2) hp)

theorem writeRule (h : Part.Stable P) (which : Bank) (i : Int) (fs : List Word) (hp : P p) :
    P (p.writeRule which i fs).1 := by
  unfold Part.writeRule
  repeat' split
  · exact hp
  · exact hp
  · exact hp
  · cases which <;> exact h.tables p _ rfl rfl rfl rfl hp

theorem writeMotion (h : Part.Stable P) (i : Int) (fs : List Word) (hp : P p) : P (p.writeMotion i fs).1 := by
  unfold Part.writeMotion
  split
  · exact hp
  next x _ =>
    split
    · exact hp
    next hw =>
      split
      · exact hp
      next m hm =>
        dsimp only
        split
        next hl => exact h.motion p x m (by simpa using hw) (readMotion_ordered hm) hl.1 hl.2 hp
        · exact hp

theorem newDrive (h : Part.Stable P) (x : Axis) (hp : P p) : P (p.acting fun c a => a.newDrive c x) := by
  have tuned : P { p with act := p.act.tune x fun r =>
      { r with
        drive := .notReady
        driveAge := if p.ctx.operating then .running (p.ctx.tab.guard.get x).ageTime else r.driveAge } } :=
    h.reach p _ (.tune _ x _ ⟨rfl, rfl, rfl, rfl, rfl, rfl, rfl⟩) hp
  exact h.out tuned rfl rfl rfl (fun ho => ho.congr rfl)

theorem writeGuard (h : Part.Stable P) (i : Int) (fs : List Word) (hp : P p) : P (p.writeGuard i fs).1 := by
  unfold Part.writeGuard
  split
  · exact hp
  next x _ =>
    split
    · exact hp
    · split
      · exact hp
      next g _ =>
        split
        · exact hp
        · have written : P (p.tabled fun t => { t with guard := t.guard.set x g }) := h.tables p _ rfl rfl rfl rfl hp
          dsimp only
          split
          · exact written
          · exact h.newDrive x written

theorem writePreset (h : Part.Stable P) (i : Int) (fs : List Word) (hp : P p) : P (p.writePreset i fs).1 := by
  unfold Part.writePreset
  repeat' split
  · exact hp
  · exact hp
  · exact h.tables p _ rfl rfl rfl rfl hp

theorem writeSearch (h : Part.Stable P) (i : Int) (fs : List Word) (hp : P p) : P (p.writeSearch i fs).1 := by
  unfold Part.writeSearch
  repeat' split
  · exact hp
  · exact hp
  · exact hp
  · exact h.tables p _ rfl rfl rfl rfl hp

theorem writePointing (h : Part.Stable P) (i : Int) (fs : List Word) (hp : P p) : P (p.writePointing i fs).1 := by
  unfold Part.writePointing
  repeat' split
  · exact hp
  · exact hp
  · exact h.acting (fun _ a => .guardMast a) (h.tables p _ rfl rfl rfl rfl hp)

theorem writeLine (h : Part.Stable P) (i : Int) (fs : List Word) (hp : P p) : P (p.writeLine i fs).1 := by
  unfold Part.writeLine
  repeat' split
  · exact hp
  · exact hp
  · exact hp
  next r _ =>
    have written : P (p.tabled fun t => { t with lines := t.lines.set (Fin.ofNat 8 i.toNat) r }) :=
      h.tables p _ rfl rfl rfl rfl hp
    exact h.sense written rfl rfl rfl rfl

theorem portChanged (h : Part.Stable P) (k : Port) (old : PortState) (hp : P p) : P (p.portChanged k old) := by
  have judged : P (p.acting fun c a => a.emit c fun t v o => o.judgeWaiting t v k (p.tab.ports.get k).state) :=
    h.emit (fun t v _ ho => ho.judgeWaiting t v k _) hp
  unfold Part.portChanged
  dsimp only
  split
  · exact hp
  · split
    · exact h.acting (fun _ a => .reopenDrives a) judged
    · exact judged

theorem writePort (h : Part.Stable P) (i : Int) (fs : List Word) (hp : P p) : P (p.writePort i fs).1 := by
  unfold Part.writePort
  repeat' split
  · exact hp
  · exact hp
  · exact hp
  · exact hp
  · exact h.portChanged _ _ (h.tables p _ rfl rfl rfl rfl hp)

theorem writeReport (h : Part.Stable P) (i : Int) (fs : List Word) (hp : P p) : P (p.writeReport i fs).1 := by
  unfold Part.writeReport
  repeat' split
  · exact hp
  · exact hp
  next r _ =>
    have written : P (p.tabled fun t => { t with report := r }) := h.tables p _ rfl rfl rfl rfl hp
    exact h.out written rfl rfl rfl (fun ho => ho.congr rfl)

theorem tableWrite (h : Part.Stable P) (ws : List Word) (hp : P p) : P (p.tableWrite ws).1 := by
  unfold Part.tableWrite
  split
  · split
    · exact h.writeNode _ _ hp
    · exact h.writeQuantity _ _ hp
    · exact h.writeRule _ _ _ hp
    · exact h.writeRule _ _ _ hp
    · exact h.writeMotion _ _ hp
    · exact h.writeGuard _ _ hp
    · exact h.writePreset _ _ hp
    · exact h.writeSearch _ _ hp
    · exact h.writePointing _ _ hp
    · exact h.writeLine _ _ hp
    · exact h.writePort _ _ hp
    · exact h.writeReport _ _ hp
    · exact hp
  · exact hp

/-! ### The other frames -/

theorem bare (h : Part.Stable P) (ws : List Word) {f : Ctx → Acting → Acting × Result}
    (hf : ∀ c a, Acting.Reach c a (f c a).1) (hp : P p) : P (p.bare ws f).1 := by
  unfold Part.bare
  split
  · exact hp
  · exact h.doing hf hp

theorem naming (h : Part.Stable P) (ws : List Word) {f : (Axis → Bool) → Ctx → Acting → Acting × Result}
    (hf : ∀ named c a, Acting.Reach c a (f named c a).1) (hp : P p) : P (p.naming ws f).1 := by
  unfold Part.naming
  repeat' split
  · exact h.doing (hf _) hp
  · exact hp
  · exact hp

theorem jogFrame (h : Part.Stable P) (n : Node) (ws : List Word) (hp : P p) : P (p.jogFrame n ws).1 := by
  unfold Part.jogFrame
  repeat' split
  · exact h.doing (fun _ a => .jog a _ _ _) hp
  · exact hp
  · exact hp

theorem startFrame (h : Part.Stable P) (ws : List Word) (hp : P p) : P (p.startFrame ws).1 := by
  unfold Part.startFrame
  repeat' split
  · exact hp
  · exact hp
  · exact h.reach _ _ (.performSequence _ _ _)
      (h.formPermit (h.acting (fun _ a => .startAxes a) (h.sense hp rfl rfl rfl rfl)))

theorem resetFrame (h : Part.Stable P) (n : Node) (ws : List Word) (hp : P p) : P (p.resetFrame n ws) := by
  unfold Part.resetFrame
  split
  · exact h.reply _ _ _ _ hp
  · exact h.takeLines _ (h.reply n .reset .done [] (h.warm p hp))

theorem swapTo (h : Part.Stable P) (which : Bank) (hp : P p) : P (p.swapTo which) := by
  have swapped : P (p.tabled fun t => { t with active := which }) := h.tables p _ rfl rfl rfl rfl hp
  exact h.takeLines _ (h.rest _ _ (List.nil_subset _) (h.sense swapped rfl rfl rfl rfl))

theorem swapFrame (h : Part.Stable P) (ws : List Word) (hp : P p) : P (p.swapFrame ws).1 := by
  unfold Part.swapFrame Part.bankSwap
  repeat' split
  · exact hp
  · exact hp
  · exact h.swapTo _ hp
  · exact hp
  · exact hp

theorem readCounters (h : Part.Stable P) (ws : List Word) (hp : P p) : P (p.readCounters ws).1 := by
  unfold Part.readCounters
  repeat' split
  · exact h.out hp rfl rfl rfl (fun ho => ho.set _ Counters.zero_bounded)
  · exact hp
  · exact hp

theorem readDrops (h : Part.Stable P) (ws : List Word) (hp : P p) : P (p.readDrops ws).1 := by
  unfold Part.readDrops
  split
  · exact hp
  · exact h.out hp rfl rfl rfl (fun ho => ho.congr rfl)

theorem linesSet (h : Part.Stable P) (ws : List Word) (hp : P p) : P (p.linesSet ws).1 := by
  unfold Part.linesSet
  split
  · split
    · exact h.tables p _ rfl rfl rfl rfl hp
    · exact hp
  · exact hp

theorem lampTest (h : Part.Stable P) (ws : List Word) (hp : P p) : P (p.lampTest ws).1 := by
  unfold Part.lampTest
  repeat' split
  · exact h.sense hp rfl rfl rfl rfl
  · exact hp
  · exact hp

theorem takeDriveStatus (h : Part.Stable P) (n : Node) (ws : List Word) (hp : P p) : P (p.takeDriveStatus n ws) := by
  unfold Part.takeDriveStatus
  repeat' split
  · exact h.acting (fun _ a => .driveReport a _ _ _) hp
  · exact hp
  · exact hp

theorem takeDemand (h : Part.Stable P) (f : Frame) (hp : P p) : P (p.takeDemand f) := by
  unfold Part.takeDemand
  split
  · exact h.answer f (h.doing (fun _ a => .jog a _ _ _) hp)
  · exact h.answer f hp

theorem readStatus (h : Part.Stable P) (f : Frame) (hp : P p) : P (p.readStatus f) := by
  unfold Part.readStatus
  split
  · exact h.answer f hp
  · exact h.acting (fun _ a => .status a) hp

theorem tableReadFrame (h : Part.Stable P) (f : Frame) (hp : P p) : P (p.tableReadFrame f) := by
  unfold Part.tableReadFrame
  split
  · exact h.reply _ _ _ _ hp
  · exact h.answer f hp

/-- R145: a well-formed SAMPLE has well-formed pairs. -/
theorem samplePairsOk_of_formOk {own : Node} {f : Frame} (hf : formOk own f = true) (hk : f.kind = .sample) :
    samplePairsOk f.payload = true := by
  unfold formOk at hf
  simp only [hk, Bool.and_eq_true] at hf
  exact hf.2.2

theorem take (h : Part.Stable P) {own : Node} {f : Frame} (hf : formOk own f = true) (hp : P p) : P (p.take f) := by
  unfold Part.take
  split
  next hk => exact h.takePairs _ _ p (samplePairsOk_of_formOk hf hk) hp
  · exact h.takeDriveStatus _ _ hp
  · exact h.acting (fun _ a => .takeAim a _ _) hp
  · exact h.acting (fun _ a => .takeGoto a _ _) hp
  · exact h.answer f (h.jogFrame _ _ hp)
  · exact h.answer f (h.naming _ (fun named _ a => .stopNamed a named) hp)
  · exact h.answer f (h.bare _ (fun _ a => .stowFrame a) hp)
  · exact h.answer f (h.bare _ (fun _ a => .startSearch a _) hp)
  · exact h.answer f (h.bare _ (fun _ a => .searchEndFrame a) hp)
  · exact h.answer f (h.naming _ (fun named _ a => .clearNamed a named) hp)
  · exact h.answer f (h.startFrame _ hp)
  · exact h.resetFrame _ _ hp
  · exact h.answer f (h.tableWrite _ hp)
  · exact h.tableReadFrame f hp
  · exact h.answer f (h.swapFrame _ hp)
  · exact h.readStatus f hp
  · exact h.reply _ _ _ _ (h.readCounters _ hp)
  · exact h.reply _ _ _ _ (h.readDrops _ hp)
  · exact h.answer f (h.linesSet _ hp)
  · exact h.answer f (h.lampTest _ hp)
  all_goals exact hp

/-! ### Arrivals -/

theorem consume (h : Part.Stable P) {own : Node} (port : Port) {f : Frame} (hf : formOk own f = true) (hp : P p) :
    P (p.consume port f) := by
  unfold Part.consume
  dsimp only
  split
  · exact h.emit (fun t v _ ho => ho.mirror t v _) (h.take hf hp)
  · exact h.take hf hp

theorem forward (h : Part.Stable P) (port dest : Port) (f : Frame) (hp : P p) : P (p.forward port dest f) := by
  unfold Part.forward
  split
  · exact h.drop _ hp
  · exact h.emit (fun t v _ ho => ho.forward t v _ _) hp

theorem route (h : Part.Stable P) {own : Node} (port : Port) {f : Frame} (hf : formOk own f = true) (hp : P p) :
    P (p.route port f) := by
  unfold Part.route
  split
  · exact h.consume port hf hp
  · exact hp
  · split
    · exact h.takeDemand f hp
    · exact h.forward _ _ _ hp
  · exact h.drop _ hp

theorem received (h : Part.Stable P) (port : Port) (hp : P p) : P (p.received port) :=
  h.out hp rfl rfl rfl (fun ho => ho.countReceived port)

theorem formOk_of_arrivalCheck {port : Port} {f : Frame} (h : p.arrivalCheck port f = none) :
    formOk p.tab.own f = true := by
  unfold Part.arrivalCheck at h
  dsimp only at h
  split at h
  · cases h
  next hf => simpa using hf

theorem arrive (h : Part.Stable P) (port : Port) (f : Frame) (hp : P p) : P (p.arrive port f) := by
  unfold Part.arrive
  dsimp only
  split
  · exact h.drop _ (h.received port hp)
  next hc => exact h.route port (formOk_of_arrivalCheck hc) (h.spend _ _ (h.received port hp))

theorem arriveWords (h : Part.Stable P) (port : Port) (framing : Bool) (ws : List Word) (hp : P p) :
    P (p.arriveWords port framing ws) := by
  unfold Part.arriveWords
  split
  · exact h.arrive port _ hp
  · exact h.drop _ (h.received port hp)

/-! ### Resets and timers -/

theorem reset (h : Part.Stable P) (straps : BitVec 2) (pins : BitVec 8) : P (Part.powerOn straps pins) := by
  unfold Part.powerOn
  dsimp only
  split
  · exact h.estopChanged (h.powerOn straps pins)
  · exact h.powerOn straps pins

theorem hold (h : Part.Stable P) (hp : P p) : P p.hold := by
  have cut : P { p with act := { p.act with out := { p.act.out with tx := ⟨none, none, none⟩ } } } :=
    h.out hp rfl rfl rfl (fun ho => ho.congr rfl)
  exact h.sense cut rfl rfl rfl rfl

theorem statusExpired (h : Part.Stable P) (hp : P p) : P (p.acting Acting.statusExpired) := by
  have restarted : P { p with act := { p.act with out := { p.act.out with
      statusTimer := some (p.tab.report.period * 10000) } } } := h.out hp rfl rfl rfl (fun ho => ho.congr rfl)
  unfold Part.acting Acting.statusExpired
  split
  · exact hp
  · exact h.acting (fun _ a => .status a) restarted

/-! ### Every step -/

/-- A stable law is kept by every command. -/
theorem exec (h : Part.Stable P) (i : Instr) {s s' : State} (he : exec i s = .next s') (hp : P s.part) :
    P s'.part := by
  have runs : ∀ f : Part → Part, s.run f = .next s' → (P s.part → P (f s.part)) → P s'.part := by
    intro f e hf
    rw [State.run_next e]
    exact h.live hf hp
  have arrives : ∀ (port : Port) (f : Frame), (s.run fun p => p.arrive port f) = .next s' → P s'.part :=
    fun port f e => runs _ e (h.arrive port f)
  have acts : ∀ {f : Ctx → Acting → Acting}, (s.run fun p => p.acting f) = .next s' →
      (∀ c a, Acting.Reach c a (f c a)) → P s'.part := fun e hf => runs _ e (h.acting hf)
  cases i
  case powerOnReset straps pins =>
    rw [← Host.Outcome.next.inj he]
    exact h.reset straps pins
  case resetInputAsserted =>
    rw [← Host.Outcome.next.inj he]
    exact h.hold hp
  case ageExpiry q => exact runs _ he (h.ageExpired q)
  case filteredLevelChange pins => exact runs _ he (h.sampleLines pins)
  case inputSample pins => exact runs _ he (h.sampleLines pins)
  case frameDropped port framing ws => exact runs _ he (h.arriveWords port framing ws)
  case tableWriteLine hd pins i fs =>
    exact runs _ he fun hq => h.arrive hd.port _ (h.sense (q := s.part.seePins pins) hq rfl rfl rfl rfl)
  case updateExpiry x => exact acts he fun _ a => .updateExpired a x
  case jogTimerExpiry x => exact acts he fun _ a => .jogExpired a x
  case stallTimerExpiry x => exact acts he fun _ a => .stallExpired a x
  case driveAgeExpiry x => exact acts he fun _ a => .driveAgeExpired a x
  case suspendTimerExpiry => exact acts he fun _ a => .suspendExpired a
  case phaseTimerExpiry => exact acts he fun _ a => .phaseExpired a
  case refillTimerExpiry => exact runs _ he (h.refill _)
  case statusTimerExpiry => exact runs _ he h.statusExpired
  case transmissionComplete k => exact runs _ he (h.emit fun t v _ ho => ho.complete t v k)
  all_goals exact arrives _ _ he

/-- A stable law is kept by every step. -/
theorem step (h : Part.Stable P) {s s' : State} (he : step s = .next s') (hp : P s.part) : P s'.part := by
  unfold Machine.step State.idle at he
  split at he
  · split at he
    · cases he
      exact hp
    · split at he
      · exact h.exec _ he hp
      · split at he <;> cases he
        · exact h.pass _ _ hp
        · exact hp
  · exact h.exec _ he hp

end Part.Stable

end Sys2Proof.Machine
end

section
/-! PROOFS. O57: the laws of meters (R160), counters (R12, R164) and LINES (R3, R23), each stable. -/

namespace Sys2Proof.Machine

/-! ### One entry of a vector -/

theorem vector_set_self {α : Type} {n : Nat} (v : Vector α n) (i : Fin n) (a : α) : (v.set i a)[i] = a := by
  simp

theorem vector_set_of_ne {α : Type} {n : Nat} (v : Vector α n) {i k : Fin n} (h : k ≠ i) (a : α) :
    (v.set i a)[k] = v[k] :=
  Vector.getElem_set_ne _ _ fun e => h (Fin.ext e.symm)

/-! ### One quantity record in the image -/

theorem Sensed.setQuantity_self (s : Sensed) (q : Fin 24) (r : QuantityRun) : (s.setQuantity q r).image[q] = r :=
  vector_set_self s.image q r

theorem Sensed.setQuantity_of_ne (s : Sensed) {q k : Fin 24} (h : k ≠ q) (r : QuantityRun) :
    (s.setQuantity q r).image[k] = s.image[k] :=
  vector_set_of_ne s.image h r

theorem Sensed.writeLines_self (s : Sensed) (v : Int) :
    (s.writeLines v).image[(11 : Fin 24)] = { s.image[(11 : Fin 24)] with value := v } :=
  vector_set_self s.image 11 _

theorem Sensed.writeLines_of_ne (s : Sensed) {k : Fin 24} (h : k ≠ 11) (v : Int) :
    (s.writeLines v).image[k] = s.image[k] :=
  vector_set_of_ne s.image h _

theorem startImage_of_ne (r : QuantityRun) {k : Fin 24} (h : k ≠ 11) :
    ((Vector.replicate 24 QuantityRun.start).set (11 : Fin 24) r)[k] = QuantityRun.start :=
  (vector_set_of_ne _ h r).trans (Vector.getElem_replicate _)

theorem warmImage_self (image : Vector QuantityRun 24) :
    (warmImage image)[(11 : Fin 24)] = QuantityRun.linesStart (image[(11 : Fin 24)]).value :=
  vector_set_self _ (11 : Fin 24) _

theorem warmImage_of_ne (image : Vector QuantityRun 24) {k : Fin 24} (h : k ≠ 11) :
    (warmImage image)[k] = QuantityRun.start := startImage_of_ne _ h

theorem Sensed.powerOn_image_self (t : Tables) (pins : BitVec 8) :
    (Sensed.powerOn t pins).image[(11 : Fin 24)] = QuantityRun.linesStart pins.toNat :=
  vector_set_self _ (11 : Fin 24) _

theorem Sensed.powerOn_image_of_ne (t : Tables) (pins : BitVec 8) {k : Fin 24} (h : k ≠ 11) :
    (Sensed.powerOn t pins).image[k] = QuantityRun.start := startImage_of_ne _ h

theorem Part.pass_tab (d : Nat) (p : Part) : (p.pass d).tab = p.tab := by
  unfold Part.pass
  rfl

theorem Part.pass_act (d : Nat) (p : Part) : (p.pass d).act = p.act.pass d := by
  unfold Part.pass
  rfl

theorem Acting.pass_counters (d : Nat) (a : Acting) : (a.pass d).out.counters = a.out.counters := by
  unfold Acting.pass
  rfl

theorem Acting.pass_lineWrites (d : Nat) (a : Acting) : (a.pass d).lineWrites = a.lineWrites := by
  unfold Acting.pass
  rfl

theorem Part.pass_meters (d : Nat) (p : Part) : (p.pass d).sen.meters = p.sen.meters := by
  unfold Part.pass
  rfl

theorem Part.pass_image (d : Nat) (p : Part) (k : Fin 24) :
    (p.pass d).sen.image[k] = { p.sen.image[k] with age := (p.sen.image[k]).age.pass d } := by
  simp [Part.pass]

/-! ### The entry of a node -/

theorem Tables.node_setNode_self (t : Tables) {n : Node} (e : NodeEntry) (h30 : n.val ≤ 30) (hn : n ≠ t.own) :
    (t.setNode n e).node n = e := by
  have h : ¬(n.val = 31 ∨ n = (t.setNode n e).own) := by
    rintro (h | h)
    · omega
    · exact hn h
  unfold Tables.node
  rw [if_neg h]
  simp [Tables.setNode]

theorem Tables.node_setNode_of_ne (t : Tables) {n k : Node} (e : NodeEntry) (h : k ≠ n) :
    (t.setNode n e).node k = t.node k := by
  have hk : (t.setNode n e).nodes[k] = t.nodes[k] := by
    simp only [Tables.setNode, Fin.getElem_fin]
    exact Vector.getElem_set_ne _ _ fun e => h (Fin.ext e.symm)
  unfold Tables.node
  rw [hk]
  rfl

theorem Tables.node_congr {t t' : Tables} (hs : t'.straps = t.straps) (hn : t'.nodes = t.nodes) (k : Node) :
    t'.node k = t.node k := by
  unfold Tables.node Tables.own
  rw [hs, hn]

/-! ### Meters -/

theorem NodeEntry.refill_le {e : NodeEntry} {n : Nat} (h : n ≤ e.capacity) : e.refill n ≤ e.capacity := by
  unfold NodeEntry.refill
  split
  · exact Nat.min_le_right _ _
  · exact h

theorem Tables.fullMeters_get (t : Tables) (n : Fin 32) : t.fullMeters[n] = (t.node n).capacity := by
  simp [Tables.fullMeters]

theorem Part.meterLaw_congr {p q : Part} (hp : p.meterLaw) (hs : q.tab.straps = p.tab.straps)
    (hn : q.tab.nodes = p.tab.nodes) (hm : q.sen.meters = p.sen.meters) : q.meterLaw := by
  intro n
  rw [Tables.node_congr hs hn, hm]
  exact hp n

theorem meterLaw_steady : Part.Steady (fun p => p.meterLaw) where
  sense hp ht _ _ hm := Part.meterLaw_congr hp (congrArg _ ht) (congrArg _ ht) hm
  reach _ _ _ hp := Part.meterLaw_congr hp rfl rfl rfl
  form _ hp := Part.meterLaw_congr hp rfl rfl rfl
  lines _ _ _ hp := Part.meterLaw_congr hp rfl rfl rfl
  rest _ _ _ hp := Part.meterLaw_congr hp rfl rfl rfl

theorem Sensed.spend_meters_le (s : Sensed) (n k : Fin 32) : (s.spend n).meters[k] ≤ s.meters[k] := by
  by_cases e : k = n
  · subst e
    exact Nat.le_trans (Nat.le_of_eq (vector_set_self s.meters k _)) (Nat.sub_le _ _)
  · exact Nat.le_of_eq (vector_set_of_ne s.meters e _)

theorem meterLaw_stable : Part.Stable (fun p => p.meterLaw) where
  toSteady := meterLaw_steady
  out hp ht hs _ _ := Part.meterLaw_congr hp (congrArg _ ht) (congrArg _ ht) (congrArg _ hs)
  tables _ _ hs hn _ _ hp := Part.meterLaw_congr hp hs hn rfl
  taken _ _ _ _ _ hp := Part.meterLaw_congr hp rfl rfl rfl
  faulted _ _ _ hp := Part.meterLaw_congr hp rfl rfl rfl
  stale _ q _ hp := meterLaw_steady.wentStale q (Part.meterLaw_congr hp rfl rfl rfl)
  spend p n hp := fun k => Nat.le_trans (p.sen.spend_meters_le n k) (hp k)
  refill p hp := by
    unfold Part.refill
    split
    · exact hp
    · intro k
      simpa using NodeEntry.refill_le (hp k)
  node p n e h30 hn hp := by
    intro k
    by_cases h : k = n
    · subst h
      simp [Tables.node_setNode_self p.tab e h30 hn]
    · rw [Tables.node_setNode_of_ne p.tab e h, vector_set_of_ne p.sen.meters h]
      exact hp k
  quantity _ _ _ _ _ hp := Part.meterLaw_congr hp rfl rfl rfl
  motion _ _ _ _ _ _ _ hp := Part.meterLaw_congr hp rfl rfl rfl
  warm p _ := fun n => Nat.le_of_eq (Tables.fullMeters_get p.tab n)
  powerOn straps _ := fun n => Nat.le_of_eq (Tables.fullMeters_get (Tables.default straps) n)
  pass d p hp := Part.meterLaw_congr hp (by rw [Part.pass_tab]) (by rw [Part.pass_tab]) (Part.pass_meters d p)

/-! ### Counters and fault counts -/

/-- R12: no fault count is above its maximum. -/
def Sensed.FaultsBounded (s : Sensed) : Prop := ∀ q : Fin 24, (s.image[q]).faults ≤ Config.byteMax

theorem Part.counterLaw_iff (p : Part) : p.counterLaw ↔ p.act.out.Bounded ∧ p.sen.FaultsBounded := by
  constructor
  · rintro ⟨hc, hs, hd, hq⟩
    exact ⟨fun k => by cases k <;> assumption, hq⟩
  · rintro ⟨ho, hq⟩
    exact ⟨ho .c, ho .s, ho .d, hq⟩

namespace Sensed.FaultsBounded

variable {s : Sensed}

/-- A record with a bounded fault count takes the place of another. -/
theorem set (h : s.FaultsBounded) (q : Fin 24) {r : QuantityRun} (hr : r.faults ≤ Config.byteMax) :
    (s.setQuantity q r).FaultsBounded := by
  intro k
  by_cases e : k = q
  · subst e
    rw [Sensed.setQuantity_self]
    exact hr
  · rw [Sensed.setQuantity_of_ne s e]
    exact h k

theorem lines (h : s.FaultsBounded) (v : Int) : (s.writeLines v).FaultsBounded := h.set 11 (h 11)

/-- Every quantity but LINES starts without faults. -/
theorem started {s : Sensed} {v : Int} (h11 : s.image[(11 : Fin 24)] = .linesStart v)
    (h : ∀ k : Fin 24, k ≠ 11 → s.image[k] = .start) : s.FaultsBounded := by
  intro k
  by_cases e : k = 11
  · subst e
    rw [h11]
    exact Nat.zero_le _
  · rw [h k e]
    exact Nat.zero_le _

theorem pass {p : Part} (h : p.sen.FaultsBounded) (d : Nat) : (p.pass d).sen.FaultsBounded := by
  intro k
  rw [Part.pass_image]
  exact h k

end Sensed.FaultsBounded

/-- The counter law, in the form in which it is shown to be stable. -/
def Part.CountersKept (p : Part) : Prop := p.act.out.Bounded ∧ p.sen.FaultsBounded

theorem countersKept_steady : Part.Steady Part.CountersKept where
  sense hp _ ha hi _ := ⟨ha ▸ hp.1, fun q => hi ▸ hp.2 q⟩
  reach _ _ hr hp := ⟨hr.bounded hp.1, hp.2⟩
  form _ hp := ⟨hp.1.congr (congrArg _ (Acting.formLines_out _ _)), hp.2⟩
  lines _ v _ hp := ⟨hp.1, hp.2.lines v⟩
  rest _ _ _ hp := hp

theorem countersKept_stable : Part.Stable Part.CountersKept where
  toSteady := countersKept_steady
  out hp _ hs _ ho := ⟨ho hp.1, hs ▸ hp.2⟩
  tables _ _ _ _ _ _ hp := hp
  taken _ q _ _ _ hp := ⟨hp.1, hp.2.set q (hp.2 q)⟩
  faulted _ q _ hp := ⟨hp.1, hp.2.set q (bumpTo_le (hp.2 q))⟩
  stale _ q _ hp := countersKept_steady.wentStale q ⟨hp.1, hp.2.set q (hp.2 q)⟩
  spend _ _ hp := hp
  refill p hp := by
    unfold Part.refill
    split
    · exact hp
    · exact ⟨hp.1, fun q => hp.2 q⟩
  node _ _ _ _ _ hp := hp
  quantity _ _ _ _ _ hp := hp
  motion _ _ _ _ _ _ _ hp := hp
  warm p _ := ⟨.start _, .started (warmImage_self p.sen.image) fun _ h => warmImage_of_ne p.sen.image h⟩
  powerOn straps pins := ⟨.start _, .started (Sensed.powerOn_image_self _ pins)
    fun _ h => Sensed.powerOn_image_of_ne (Tables.default straps) pins h⟩
  pass d p hp := ⟨hp.1.congr (by rw [Part.pass_act, Acting.pass_counters]), hp.2.pass d⟩

/-! ### LINES -/

/-- R3: LINES as the law asks, without the line sets that wait. -/
def QuantityRun.LinesKept (r : QuantityRun) : Prop :=
  r.state = .fresh ∧ r.age = none ∧ r.faults = 0 ∧ 0 ≤ r.value ∧ r.value ≤ 255

/-- The law of LINES, in the form in which it is shown to be stable. -/
def Part.LinesKept (p : Part) : Prop :=
  (p.sen.image[(11 : Fin 24)]).LinesKept ∧ ∀ v ∈ p.act.lineWrites, 0 ≤ v ∧ v ≤ 255

theorem Part.linesLaw_iff (p : Part) : p.linesLaw ↔ p.LinesKept := by
  constructor
  · rintro ⟨h1, h2, h3, h4, h5, h6⟩
    exact ⟨⟨h1, h2, h3, h4, h5⟩, h6⟩
  · rintro ⟨⟨h1, h2, h3, h4, h5⟩, h6⟩
    exact ⟨h1, h2, h3, h4, h5, h6⟩

theorem QuantityRun.LinesKept.write {r : QuantityRun} (h : r.LinesKept) {v : Int} (hv : 0 ≤ v ∧ v ≤ 255) :
    QuantityRun.LinesKept { r with value := v } := by
  obtain ⟨h1, h2, h3, _, _⟩ := h
  exact ⟨h1, h2, h3, hv.1, hv.2⟩

theorem QuantityRun.LinesKept.started {v : Int} (hv : 0 ≤ v ∧ v ≤ 255) : (QuantityRun.linesStart v).LinesKept :=
  ⟨rfl, rfl, rfl, hv.1, hv.2⟩

theorem linesKept_steady : Part.Steady Part.LinesKept where
  sense hp _ ha hi _ := ⟨hi ▸ hp.1, ha ▸ hp.2⟩
  reach _ _ hr hp := ⟨hp.1, hr.lineWrites_range hp.2⟩
  form _ hp := ⟨hp.1, Acting.formLines_range hp.2⟩
  lines p v hv hp := by
    refine ⟨?_, hp.2⟩
    rw [Sensed.writeLines_self]
    refine hp.1.write ?_
    rcases hv with hv | ⟨level, rfl⟩
    · exact hp.2 v hv
    · exact lineNumber_range level
  rest _ _ hs hp := ⟨hp.1, fun v hv => hp.2 v (hs hv)⟩

/-- A change of another quantity leaves LINES as it was. -/
theorem Part.LinesKept.setQuantity {p : Part} (hp : p.LinesKept) {q : Fin 24} (hq : q ≠ 11) (r : QuantityRun) :
    Part.LinesKept { p with sen := p.sen.setQuantity q r } := by
  refine ⟨?_, hp.2⟩
  rw [Sensed.setQuantity_of_ne p.sen (Ne.symm hq)]
  exact hp.1

theorem linesKept_stable : Part.Stable Part.LinesKept where
  toSteady := linesKept_steady
  out hp _ hs ha _ := ⟨hs ▸ hp.1, by rw [ha]; exact hp.2⟩
  tables _ _ _ _ _ _ hp := hp
  taken _ _ _ _ hq hp := hp.setQuantity hq _
  faulted _ _ hq hp := hp.setQuantity hq _
  stale p q hq hp := by
    refine linesKept_steady.wentStale q (hp.setQuantity ?_ _)
    rintro rfl
    obtain ⟨_, hage, _⟩ := hp.1
    rcases hq with hq | hq
    · exact hq rfl
    · rw [hage] at hq
      cases hq
  spend _ _ hp := hp
  refill p hp := by
    unfold Part.refill
    split
    · exact hp
    · exact ⟨hp.1, hp.2⟩
  node _ _ _ _ _ hp := hp
  quantity _ _ _ _ _ hp := hp
  motion _ _ _ _ _ _ _ hp := hp
  warm p hp := by
    refine ⟨?_, by simp [Part.warm, Acting.start]⟩
    simp only [Part.warm, Sensed.warm, warmImage_self]
    obtain ⟨_, _, _, hv⟩ := hp.1
    exact .started hv
  powerOn straps pins := by
    refine ⟨?_, by simp [Acting.start]⟩
    rw [Sensed.powerOn_image_self]
    have := pins.isLt
    exact .started ⟨by omega, by omega⟩
  pass d p hp := by
    refine ⟨?_, by rw [Part.pass_act, Acting.pass_lineWrites]; exact hp.2⟩
    rw [Part.pass_image]
    obtain ⟨h1, h2, h3⟩ := hp.1
    exact ⟨h1, by rw [h2]; rfl, h3⟩

/-- Settles O57: each of the three laws is stable, so every step keeps it. -/
theorem stepsKeepCountLaws : Obligations.StepsKeepCountLaws := by
  intro s s' h
  refine ⟨meterLaw_stable.step h, fun hp => ?_, fun hp => ?_⟩
  · exact (Part.counterLaw_iff _).2 (countersKept_stable.step h ((Part.counterLaw_iff _).1 hp))
  · exact (Part.linesLaw_iff _).2 (linesKept_stable.step h ((Part.linesLaw_iff _).1 hp))

end Sys2Proof.Machine
end

section
/-! PROOFS. O58: the law of the axis records (R65, R68, R72, R81) and the law of fresh positions (R72, R87). -/

namespace Sys2Proof.Machine

/-! ### The law of one axis record, by the kind of its state -/

/-- R65: the four shapes of a lawful record: it holds a goal, it jogs, it rests without a client, or it is in
FAULT. -/
inductive AxisRun.Lawful (m : MotionRecord) (r : AxisRun) : Prop
  | holding (g : Int) (state : r.state.holdsGoal = true) (goal : r.goal = some g)
      (limits : m.softMin ≤ g ∧ g ≤ m.softMax) (jog : r.jog = none) (cause : r.faultCause = .none)
      (owner : r.owner ≠ .jog)
  | jogging (v : Int) (state : r.state = .jogging) (goal : r.goal = none) (jog : r.jog = some v)
      (range : -(m.vmax : Int) ≤ v ∧ v ≤ m.vmax) (cause : r.faultCause = .none) (owner : r.owner = .jog)
  | resting (state : r.state = .stopped ∨ r.state = .stopping) (goal : r.goal = none) (jog : r.jog = none)
      (cause : r.faultCause = .none) (owner : r.owner = .none)
  | faulted (state : r.state = .fault) (goal : r.goal = none) (jog : r.jog = none) (cause : r.faultCause ≠ .none)
      (owner : r.owner = .none)

theorem AxisState.holdsGoal_iff (s : AxisState) : s.holdsGoal = true ↔ s = .moving ∨ s = .atGoal ∨ s = .held := by
  cases s <;> decide

theorem AxisRun.law_iff (m : MotionRecord) (r : AxisRun) : r.law m ↔ r.Lawful m := by
  constructor
  · rintro ⟨hg, hl, hj, hv, hf, ho, hjo⟩
    cases hs : r.state <;> simp only [hs, AxisState.holdsGoal] at hg hj hf ho hjo
    case moving | atGoal | held =>
      obtain ⟨g, hg⟩ := Option.isSome_iff_exists.1 hg
      exact .holding g (by rw [hs]; rfl) hg (by simpa [hg] using hl) (by simpa using hj) (by simpa using hf)
        (by simpa using hjo)
    case jogging =>
      obtain ⟨v, hj⟩ := Option.isSome_iff_exists.1 (by simpa using hj : r.jog.isSome = true)
      exact .jogging v hs (by simpa using hg) hj (by simpa [hj] using hv) (by simpa using hf) (by simpa using hjo)
    case stopped | stopping =>
      exact .resting (by simp [hs]) (by simpa using hg) (by simpa using hj) (by simpa using hf) (by simpa using ho)
    case fault => exact .faulted hs (by simpa using hg) (by simpa using hj) (by simpa using hf) (by simpa using ho)
  · rintro (⟨g, hs, hg, hl, hj, hf, ho⟩ | ⟨v, hs, hg, hj, hv, hf, ho⟩ | ⟨hs, hg, hj, hf, ho⟩ | ⟨hs, hg, hj, hf, ho⟩)
    · rcases (AxisState.holdsGoal_iff _).1 hs with hs | hs | hs <;>
        simp [AxisRun.law, hs, hg, hl, hj, hf, ho, AxisState.holdsGoal]
    · simp [AxisRun.law, hs, hg, hj, hv, hf, ho, AxisState.holdsGoal]
    · rcases hs with hs | hs <;> simp [AxisRun.law, hs, hg, hj, hf, ho, AxisState.holdsGoal]
    · simp [AxisRun.law, hs, hg, hj, hf, ho, AxisState.holdsGoal]

namespace AxisRun.Lawful

variable {m : MotionRecord} {r : AxisRun}

/-- The law speaks of five fields. -/
theorem congr {r' : AxisRun} (h : r.Lawful m) (state : r'.state = r.state) (goal : r'.goal = r.goal)
    (jog : r'.jog = r.jog) (cause : r'.faultCause = r.faultCause) (owner : r'.owner = r.owner) : r'.Lawful m := by
  cases h with
  | holding g hs hg hl hj hf ho => exact .holding g (state ▸ hs) (goal ▸ hg) hl (jog ▸ hj) (cause ▸ hf) (owner ▸ ho)
  | jogging v hs hg hj hv hf ho =>
    exact .jogging v (state ▸ hs) (goal ▸ hg) (jog ▸ hj) hv (cause ▸ hf) (owner ▸ ho)
  | resting hs hg hj hf ho => exact .resting (state ▸ hs) (goal ▸ hg) (jog ▸ hj) (cause ▸ hf) (owner ▸ ho)
  | faulted hs hg hj hf ho => exact .faulted (state ▸ hs) (goal ▸ hg) (jog ▸ hj) (cause ▸ hf) (owner ▸ ho)

theorem start (m : MotionRecord) : AxisRun.start.Lawful m := .resting (.inl rfl) rfl rfl rfl rfl

/-- An axis that holds a goal moves to another such state. -/
theorem enter_holding (h : r.Lawful m) (hr : r.state.holdsGoal = true) {st : AxisState} (hst : st.holdsGoal = true) :
    (r.enter st).Lawful m := by
  have hne : st ≠ .jogging ∧ st ≠ .fault := by cases st <;> simp_all [AxisState.holdsGoal]
  cases h with
  | holding g hs hg hl hj hf ho =>
    exact .holding g hst (by simp [hst, hg]) hl (by simp [hne.1]) (by simp [hne.2]) ho
  | jogging v hs => simp [hs, AxisState.holdsGoal] at hr
  | resting hs => rcases hs with hs | hs <;> simp [hs, AxisState.holdsGoal] at hr
  | faulted hs => simp [hs, AxisState.holdsGoal] at hr

/-- An axis comes to rest, and its client is gone. -/
theorem enter_resting {r' : AxisRun} {st : AxisState} (hst : st = .stopped ∨ st = .stopping)
    (state : r'.state = st) (goal : r'.goal = (r.enter st).goal) (jog : r'.jog = (r.enter st).jog)
    (cause : r'.faultCause = (r.enter st).faultCause) (owner : r'.owner = .none) : r'.Lawful m := by
  rcases hst with rfl | rfl <;> exact .resting (by simp [state]) goal jog cause owner

theorem clampGoal_within (h : m.softMin ≤ m.softMax) (g : Int) :
    m.softMin ≤ m.clampGoal g ∧ m.clampGoal g ≤ m.softMax := by
  unfold MotionRecord.clampGoal clampTo
  omega

/-! ### Each change of an axis record -/

theorem claimed (h : r.Lawful m) (hm : m.softMin ≤ m.softMax) {o : Owner} (ho : o ≠ .jog) (g : Int) :
    (r.claimed m o g).Lawful m := by
  unfold AxisRun.claimed
  dsimp only
  split
  next hs =>
    exact .holding (m.clampGoal g) (by simp [hs.1, AxisState.holdsGoal]) hs.2 (clampGoal_within hm g)
      (by cases h <;> simp_all [AxisState.holdsGoal]) (by cases h <;> simp_all [AxisState.holdsGoal]) ho
  · exact .holding (m.clampGoal g) rfl rfl (clampGoal_within hm g) rfl rfl ho

theorem jogged (t : PointingRecord) (rate : Int) : (r.jogged m t rate).Lawful m := by
  refine .jogging (clampTo (-(m.vmax : Int)) m.vmax rate) rfl rfl rfl ?_ rfl rfl
  unfold clampTo
  omega

theorem released (h : r.Lawful m) (ho : r.owner ≠ .jog) : r.released.Lawful m := by
  unfold AxisRun.released
  split
  · exact enter_resting (r := r) (.inr rfl) rfl rfl rfl rfl rfl
  · exact enter_resting (r := r) (.inr rfl) rfl rfl rfl rfl rfl
  · cases h with
    | holding g hs hg hl hj hf _ => exact .holding g hs hg hl hj hf (by simp)
    | jogging v hs hg hj hv hf ho' => exact absurd ho' ho
    | resting hs hg hj hf _ => exact .resting hs hg hj hf rfl
    | faulted hs hg hj hf _ => exact .faulted hs hg hj hf rfl

theorem stoppedBy (h : r.Lawful m) : r.stoppedBy.Lawful m := by
  have hst : (if r.vPrev = 0 then AxisState.stopped else .stopping) = .stopped
      ∨ (if r.vPrev = 0 then AxisState.stopped else .stopping) = .stopping := by
    split <;> simp
  unfold AxisRun.stoppedBy
  split
  case h_5 | h_6 | h_7 => exact h
  all_goals exact enter_resting hst rfl rfl rfl rfl rfl

theorem cleared : r.cleared.Lawful m := enter_resting (r := r) (.inl rfl) rfl rfl rfl rfl rfl

theorem zeroed (h : r.Lawful m) : r.zeroed.Lawful m := h.congr rfl rfl rfl rfl rfl

theorem cutOff (h : r.Lawful m) : r.cutOff.Lawful m := by
  unfold AxisRun.cutOff
  split
  · exact h.zeroed
  · exact enter_resting (r := r) (.inl rfl) rfl rfl rfl rfl rfl

/-- The owner of an axis that is STOPPING is gone. -/
theorem owner_of_stopping (h : r.Lawful m) (hs : r.state = .stopping) : r.owner = .none := by
  cases h <;> simp_all [AxisState.holdsGoal]

theorem held (h : r.Lawful m) : r.held.Lawful m := by
  unfold AxisRun.held
  split
  next hs => exact (h.enter_holding (by rw [hs]; rfl) (st := .held) rfl).congr rfl rfl rfl rfl rfl
  next hs => exact (h.enter_holding (by rw [hs]; rfl) (st := .held) rfl).congr rfl rfl rfl rfl rfl
  next hs => exact enter_resting (r := r) (.inl rfl) rfl rfl rfl rfl (h.owner_of_stopping hs)
  · exact h.zeroed

theorem enterFault {cause : FaultCause} (hc : cause ≠ .none) : (r.faulted cause).Lawful m :=
  .faulted rfl rfl rfl hc rfl

theorem settledAt (h : r.Lawful m) (hr : r.state.holdsGoal = true) (run : Nat) : (r.settledAt m run).Lawful m := by
  unfold AxisRun.settledAt
  split
  · exact (h.enter_holding hr (st := .atGoal) rfl).congr rfl rfl rfl rfl rfl
  · exact h.congr rfl rfl rfl rfl rfl

theorem outcome (h : r.Lawful m) (p raw v : Int) (blocked : Bool) : (r.outcome m p raw v blocked).Lawful m := by
  have same : ∀ w, AxisRun.Lawful m { r with vPrev := w } := fun _ => h.congr rfl rfl rfl rfl rfl
  unfold AxisRun.outcome
  dsimp only
  split
  · exact same 0
  · exact same 0
  next hs =>
    have hr : r.state.holdsGoal = true := by rw [hs]; rfl
    split
    · exact (h.enter_holding hr (st := .held) rfl).congr rfl rfl rfl rfl rfl
    · exact (same v).settledAt hr _
  next hs =>
    have hr : r.state.holdsGoal = true := by rw [hs]; rfl
    split
    · exact (h.enter_holding hr (st := .held) rfl).congr rfl rfl rfl rfl rfl
    · split
      · exact same v
      · exact (h.enter_holding hr (st := .moving) rfl).congr rfl rfl rfl rfl rfl
  · exact same _
  next hs =>
    split
    · exact enter_resting (r := r) (.inl rfl) rfl rfl rfl rfl (h.owner_of_stopping hs)
    · exact same v
  next hs =>
    have moving := h.enter_holding (by rw [hs]; rfl) (st := .moving) rfl
    split
    · exact same 0
    · split
      · exact settledAt (moving.congr (r' := { r.enter .moving with vPrev := 0 }) rfl rfl rfl rfl rfl) rfl 1
      · split
        · exact same 0
        · exact moving.congr rfl rfl rfl rfl rfl

theorem stallWatch (h : r.Lawful m) (g : GuardRecord) (before : AxisState) (p : Int) :
    (r.stallWatch g before p).Lawful m := by
  unfold AxisRun.stallWatch
  repeat' split
  · exact h.congr rfl rfl rfl rfl rfl
  · exact h.congr rfl rfl rfl rfl rfl
  · exact h

/-- Every change of an axis record keeps its law. -/
theorem moved {c : Ctx} {x : Axis} {r' : AxisRun} {v : Option Int} (h : r.Lawful (c.tab.motion.get x))
    (hm : (c.tab.motion.get x).softMin ≤ (c.tab.motion.get x).softMax) (hr : AxisRun.Moved c x r r' v) :
    r'.Lawful (c.tab.motion.get x) := by
  cases hr with
  | same => exact h
  | claimed o g _ ho => exact h.claimed hm (by rcases ho with rfl | rfl | rfl <;> decide) g
  | jogged rate => exact jogged _ rate
  | released _ ho => exact h.released (by rcases ho with ho | ho <;> simp [ho])
  | stopped => exact h.stoppedBy
  | cleared => exact cleared
  | cutOff => exact h.cutOff
  | held => exact h.held
  | faulted cause _ hc => exact enterFault hc
  | zeroed => exact h.zeroed
  | started => exact h.congr rfl rfl rfl rfl rfl
  | servo => exact (h.outcome _ _ _ _).stallWatch _ _ _

end AxisRun.Lawful

/-! ### The axes of an acting side -/

theorem Acting.shift_get (c : Ctx) (rate : Axis → Option Int) (f : Axis → AxisRun → AxisRun) (a : Acting) (x : Axis) :
    (a.shift c rate f).axes.get x = f x (a.axes.get x) := by
  rw [Acting.shift_axes]
  cases x <;> rfl

/-- Every change of the acting side keeps the law of each axis. -/
theorem Acting.Reach.lawful {c : Ctx} {a b : Acting} (h : Acting.Reach c a b) {x : Axis}
    (hm : (c.tab.motion.get x).softMin ≤ (c.tab.motion.get x).softMax)
    (h0 : (a.axes.get x).Lawful (c.tab.motion.get x)) : (b.axes.get x).Lawful (c.tab.motion.get x) := by
  refine h.keeps (P := fun d => (d.axes.get x).Lawful (c.tab.motion.get x)) h0 ?_ ?_ (fun _ _ hd => hd)
    (fun _ _ hd => hd) (fun _ _ hd => hd) (fun _ _ _ hd => hd) (fun _ hd => hd) (fun _ _ _ _ _ hd => hd)
  · intro d rate f hf hd
    rw [Acting.shift_get]
    exact hd.moved hm (hf x)
  · intro d y f hf hd
    by_cases e : x = y
    · subst e
      rw [Acting.tune_axes, PerAxis.get_set_self]
      exact hd.congr hf.state hf.goal hf.jog hf.faultCause hf.owner
    · rw [Acting.tune_axes, PerAxis.get_set_of_ne _ e]
      exact hd

/-! ### The soft limits -/

/-- R60, R62 at one axis. -/
def Tables.LimitsAt (t : Tables) (x : Axis) : Prop :=
  (t.motion.get x).softMin ≤ (t.motion.get x).softMax ∧ (t.quantity (positionOf x)).lo ≤ (t.motion.get x).softMin
    ∧ (t.motion.get x).softMax ≤ (t.quantity (positionOf x)).hi

theorem Tables.limitsLaw_iff (t : Tables) : t.limitsLaw ↔ ∀ x, t.LimitsAt x := by
  simp only [Tables.limitsLaw, axisList, List.all_cons, List.all_nil, Bool.and_true, Bool.and_eq_true, decide_eq_true_eq]
  constructor
  · rintro ⟨⟨⟨h1, h2⟩, h3⟩, ⟨⟨h4, h5⟩, h6⟩, ⟨h7, h8⟩, h9⟩ x
    cases x
    · exact ⟨h1, h2, h3⟩
    · exact ⟨h4, h5, h6⟩
    · exact ⟨h7, h8, h9⟩
  · intro h
    obtain ⟨h1, h2, h3⟩ := h .mast
    obtain ⟨h4, h5, h6⟩ := h .pan
    obtain ⟨h7, h8, h9⟩ := h .tilt
    exact ⟨⟨⟨h1, h2⟩, h3⟩, ⟨⟨h4, h5⟩, h6⟩, ⟨h7, h8⟩, h9⟩

theorem positionOf_ne_lines (x : Axis) : positionOf x ≠ 11 := by
  cases x <;> decide

theorem positionOf_ne_level (x : Axis) : positionOf x ≠ 8 := by
  cases x <;> decide

theorem axisOfQuantity_positionOf (x : Axis) : axisOfQuantity (positionOf x) = some x := by
  cases x <;> rfl

theorem Tables.quantity_positionOf (t : Tables) (x : Axis) : t.quantity (positionOf x) = t.quantities[positionOf x] :=
  if_neg (positionOf_ne_lines x)

theorem Tables.LimitsAt.congr {t t' : Tables} {x : Axis} (h : t.LimitsAt x) (hq : t'.quantities = t.quantities)
    (hm : t'.motion = t.motion) : t'.LimitsAt x := by
  unfold Tables.LimitsAt at h ⊢
  rw [Tables.quantity_positionOf] at h ⊢
  rw [hq, hm]
  exact h

/-- R13: a new range of a position holds the soft limits of its axis. -/
theorem Tables.LimitsAt.setQuantity {t : Tables} (h : ∀ x, t.LimitsAt x) {q : Fin 24} {e : QuantityEntry}
    (he : e.holdsLimits t q = true) (x : Axis) :
    Tables.LimitsAt { t with quantities := t.quantities.set q e } x := by
  obtain ⟨h1, h2, h3⟩ := h x
  unfold Tables.LimitsAt
  rw [Tables.quantity_positionOf] at h2 h3 ⊢
  by_cases hx : positionOf x = q
  · subst hx
    simp only [QuantityEntry.holdsLimits, axisOfQuantity_positionOf, Bool.and_eq_true, decide_eq_true_eq] at he
    obtain ⟨⟨⟨he1, he2⟩, _⟩, _⟩ := he
    refine ⟨h1, ?_, ?_⟩
    · rw [vector_set_self]
      exact he1
    · rw [vector_set_self]
      exact he2
  · refine ⟨h1, ?_, ?_⟩
    · rw [vector_set_of_ne _ hx]
      exact h2
    · rw [vector_set_of_ne _ hx]
      exact h3

/-- R62: a new motion record lies within the range of its axis's position. -/
theorem Tables.LimitsAt.setMotion {t : Tables} (h : ∀ x, t.LimitsAt x) {x : Axis} {m : MotionRecord}
    (hm : m.softMin ≤ m.softMax) (hlo : (t.quantity (positionOf x)).lo ≤ m.softMin)
    (hhi : m.softMax ≤ (t.quantity (positionOf x)).hi) (y : Axis) :
    Tables.LimitsAt { t with motion := t.motion.set x m } y := by
  unfold Tables.LimitsAt
  dsimp only
  by_cases e : y = x
  · subst e
    rw [PerAxis.get_set_self]
    exact ⟨hm, hlo, hhi⟩
  · rw [PerAxis.get_set_of_ne _ e]
    exact h y

/-- R2, R60: the soft limits are all 0 after a power-on reset, and the position ranges hold 0. -/
theorem Tables.default_limits (straps : BitVec 2) (x : Axis) : (Tables.default straps).LimitsAt x := by
  have range : (QuantityEntry.defaults[positionOf x]).lo ≤ 0 ∧ 0 ≤ (QuantityEntry.defaults[positionOf x]).hi := by
    cases x <;> decide
  have motion : (Tables.default straps).motion.get x = .default := by
    cases x <;> rfl
  unfold Tables.LimitsAt
  rw [Tables.quantity_positionOf, motion]
  exact ⟨Int.le_refl 0, range⟩

/-! ### The law of the axis records is stable -/

/-- The law of the axis records, in the form in which it is shown to be stable. -/
def Part.AxesLawful (p : Part) : Prop :=
  (∀ x, (p.act.axes.get x).Lawful (p.tab.motion.get x)) ∧ ∀ x, p.tab.LimitsAt x

theorem Part.axisLaw_iff (p : Part) : p.axisLaw ↔ p.AxesLawful := by
  unfold Part.axisLaw Part.AxesLawful
  simp only [AxisRun.law_iff, Tables.limitsLaw_iff]
  constructor
  · rintro ⟨h1, h2, h3, h4⟩
    exact ⟨fun x => by cases x <;> assumption, h4⟩
  · rintro ⟨h, h4⟩
    exact ⟨h .mast, h .pan, h .tilt, h4⟩

theorem Acting.pass_get (d : Nat) (a : Acting) (x : Axis) : (a.pass d).axes.get x = (a.axes.get x).pass d := by
  cases x <;> rfl

theorem axesLawful_steady : Part.Steady Part.AxesLawful where
  sense hp ht ha _ _ := ⟨by rw [ht, ha]; exact hp.1, by rw [ht]; exact hp.2⟩
  reach _ _ hr hp := ⟨fun x => hr.lawful (hp.2 x).1 (hp.1 x), hp.2⟩
  form p hp := ⟨fun x => by rw [Part.formLines_act, Acting.formLines_axes]; exact hp.1 x, hp.2⟩
  lines _ _ _ hp := hp
  rest _ _ _ hp := hp

/-- A writable axis (STOPPED or in FAULT) is lawful under any motion record. -/
theorem AxisRun.Lawful.of_writable {m m' : MotionRecord} {r : AxisRun} (h : r.Lawful m)
    (hw : r.state.writable = true) : r.Lawful m' := by
  cases h with
  | holding g hs => rcases (AxisState.holdsGoal_iff _).1 hs with hs | hs | hs <;> simp [hs, AxisState.writable] at hw
  | jogging v hs => simp [hs, AxisState.writable] at hw
  | resting hs hg hj hf ho => exact .resting hs hg hj hf ho
  | faulted hs hg hj hf ho => exact .faulted hs hg hj hf ho

theorem axesLawful_stable : Part.Stable Part.AxesLawful where
  toSteady := axesLawful_steady
  out hp ht _ ha _ := ⟨by rw [ht, ha]; exact hp.1, by rw [ht]; exact hp.2⟩
  tables p t _ _ hq hm hp := ⟨by rw [hm]; exact hp.1, fun x => (hp.2 x).congr hq hm⟩
  taken _ _ _ _ _ hp := hp
  faulted _ _ _ hp := hp
  stale _ q _ hp := axesLawful_steady.wentStale q hp
  spend _ _ hp := hp
  refill p hp := by
    unfold Part.refill
    split
    · exact hp
    · exact ⟨hp.1, hp.2⟩
  node _ _ _ _ _ hp := ⟨hp.1, fun x => (hp.2 x).congr rfl rfl⟩
  quantity _ _ _ _ he hp := ⟨hp.1, Tables.LimitsAt.setQuantity hp.2 he⟩
  motion p x m hw hm hlo hhi hp := by
    refine ⟨fun y => ?_, Tables.LimitsAt.setMotion hp.2 hm hlo hhi⟩
    rw [Part.tabled_act, Part.tabled_tab]
    by_cases e : y = x
    · subst e
      exact (hp.1 y).of_writable hw
    · rw [PerAxis.get_set_of_ne _ e]
      exact hp.1 y
  warm p hp := ⟨fun x => by cases x <;> exact .start _, hp.2⟩
  powerOn straps _ := ⟨fun x => by cases x <;> exact .start _, Tables.default_limits straps⟩
  pass d p hp := by
    refine ⟨fun x => ?_, by rw [Part.pass_tab]; exact hp.2⟩
    rw [Part.pass_tab, Part.pass_act, Acting.pass_get]
    exact (hp.1 x).congr rfl rfl rfl rfl rfl

/-! ### The law of fresh positions is stable, axis by axis -/

/-- R72, R87 at one axis, in the form in which it is shown to be stable. -/
def Part.FreshAt (x : Axis) (p : Part) : Prop := Acting.Reach.Rests p.ctx x (p.act.axes.get x)

theorem Part.freshLaw_iff (p : Part) : p.freshLaw ↔ ∀ x, p.FreshAt x := by
  have at_iff : ∀ x, (p.act.axes.get x).freshLaw p.sen x ↔ p.FreshAt x := fun x => by
    unfold Part.FreshAt Acting.Reach.Rests Ctx.posFresh Sensed.fresh
    rw [decide_eq_true_eq]
    rfl
  constructor
  · rintro ⟨h1, h2, h3⟩ x
    cases x
    · exact (at_iff .mast).1 h1
    · exact (at_iff .pan).1 h2
    · exact (at_iff .tilt).1 h3
  · intro h
    exact ⟨(at_iff .mast).2 (h .mast), (at_iff .pan).2 (h .pan), (at_iff .tilt).2 (h .tilt)⟩

/-- The law at an axis speaks of the state of the axis and of its position. -/
theorem Part.FreshAt.congr {x : Axis} {p q : Part} (h : p.FreshAt x)
    (state : (q.act.axes.get x).state = (p.act.axes.get x).state)
    (position : (q.sen.image[positionOf x]).state = (p.sen.image[positionOf x]).state) : q.FreshAt x := by
  unfold Part.FreshAt Acting.Reach.Rests Ctx.posFresh Sensed.fresh at h ⊢
  rw [state, Part.ctx_sen, position]
  exact h

/-- A change of another quantity. -/
theorem Part.FreshAt.setQuantity {x : Axis} {p : Part} (h : p.FreshAt x) {q : Fin 24} (hq : q ≠ positionOf x)
    (r : QuantityRun) : Part.FreshAt x { p with sen := p.sen.setQuantity q r } :=
  h.congr rfl (by rw [Sensed.setQuantity_of_ne p.sen (Ne.symm hq)])

theorem freshAt_steady (x : Axis) : Part.Steady (Part.FreshAt x) where
  sense hp _ ha hi _ := hp.congr (by rw [ha]) (by rw [hi])
  reach _ _ hr hp := hr.rests hp
  form p hp := hp.congr (by rw [Part.formLines_act, Acting.formLines_axes]) rfl
  lines p _ _ hp := hp.congr rfl (by rw [Sensed.writeLines_of_ne p.sen (positionOf_ne_lines x)])
  rest _ _ _ hp := hp

/-- R89: an axis that enters FAULT rests, whatever its client does. -/
theorem Acting.enterFault_rests (c : Ctx) (x : Axis) (cause : FaultCause) (a : Acting) :
    Acting.Reach.Rests c x ((a.enterFault c x cause).axes.get x) := by
  have faulted : Acting.Reach.Rests c x ((a.shift c (immediateZeros c fun y => decide (y = x))
      fun y r => if y = x then r.faulted cause else r).axes.get x) := by
    rw [Acting.shift_get, if_pos rfl]
    exact .inr (.inl rfl)
  unfold Acting.enterFault
  dsimp only
  rw [Acting.faultEvent_axes]
  split
  · exact (Acting.Reach.failSearch _ _).rests faulted
  · exact (Acting.Reach.faultSequence _).rests faulted
  all_goals exact faulted

/-- R87: an axis that loses its position is STOPPED or in FAULT then. -/
theorem Acting.losePosition_rests (c : Ctx) (x : Axis) (a : Acting) :
    Acting.Reach.Rests c x ((a.losePosition c x).axes.get x) := by
  unfold Acting.losePosition
  split
  · exact a.enterFault_rests c x _
  next h =>
    revert h
    cases hs : (a.axes.get x).state <;> simp [hs, AxisState.needsPosition, Acting.Reach.Rests]

/-- R87: when a position goes STALE its axis rests. -/
theorem Part.wentStale_rests (x : Axis) (p : Part) : (p.wentStale (positionOf x)).FreshAt x := by
  unfold Part.wentStale
  dsimp only
  rw [if_neg (positionOf_ne_level x), axisOfQuantity_positionOf]
  cases x
  · exact Acting.losePosition_rests _ _ _
  all_goals exact (Acting.Reach.guardMast _).rests (Acting.losePosition_rests _ _ _)

theorem freshAt_stable (x : Axis) : Part.Stable (Part.FreshAt x) where
  toSteady := freshAt_steady x
  out hp _ hs ha _ := hp.congr (by rw [ha]) (by rw [hs])
  tables _ _ _ _ _ _ hp := hp
  taken p q e v _ hp := by
    by_cases h : q = positionOf x
    · subst h
      refine .inr (.inr ?_)
      simp [Ctx.posFresh, Sensed.fresh, QuantityRun.take]
    · exact hp.setQuantity h _
  faulted p q _ hp := by
    by_cases h : q = positionOf x
    · subst h
      exact hp.congr rfl (by rw [Sensed.setQuantity_self]; rfl)
    · exact hp.setQuantity h _
  stale p q _ hp := by
    by_cases h : q = positionOf x
    · subst h
      exact Part.wentStale_rests x _
    · exact (freshAt_steady x).wentStale q (hp.setQuantity h _)
  spend _ _ hp := hp
  refill p hp := by
    unfold Part.refill
    split
    · exact hp
    · exact hp.congr rfl rfl
  node _ _ _ _ _ hp := hp
  quantity _ _ _ _ _ hp := hp
  motion _ _ _ _ _ _ _ hp := hp
  warm p _ := .inl (by cases x <;> rfl)
  powerOn _ _ := .inl (by cases x <;> rfl)
  pass d p hp := hp.congr (by rw [Part.pass_act, Acting.pass_get]; rfl) (by rw [Part.pass_image])

/-- Settles O58: both laws are stable, so every step keeps them. -/
theorem stepsKeepAxisLaw : Obligations.StepsKeepAxisLaw := by
  intro s s' h
  refine ⟨fun hp => ?_, fun hp => ?_⟩
  · exact (Part.axisLaw_iff _).2 (axesLawful_stable.step h ((Part.axisLaw_iff _).1 hp))
  · exact (Part.freshLaw_iff _).2 fun x => (freshAt_stable x).step h ((Part.freshLaw_iff _).1 hp x)

end Sys2Proof.Machine
end

section
/-! PROOFS. O2: time on an empty queue (R9, R71, R146; log 2). -/

namespace Sys2Proof.Machine

/-! ### An empty queue -/

theorem step_empty {s : State} (h : s.pending = []) : step s = s.idle := by
  unfold step
  rw [h]

/-- No timer has run out, where none is due. -/
theorem Part.due_eq_none {p : Part} (h : p.due = none) {t : Timer × Instr} (ht : t ∈ p.timers) : t.1 ≠ some 0 := by
  unfold Part.due at h
  have := List.find?_eq_none.1 (Option.map_eq_none_iff.1 h) t ht
  simpa using this

/-- The time to the next expiry is that of the timer that runs out first. -/
theorem Part.untilNext_eq_some {p : Part} {d : Nat} (h : p.untilNext = some d) :
    (∃ t ∈ p.timers, t.1 = some d) ∧ ∀ t ∈ p.timers, ∀ left, t.1 = some left → d ≤ left := by
  unfold Part.untilNext at h
  obtain ⟨hmem, hle⟩ := List.min?_eq_some_iff.1 h
  exact ⟨List.mem_filterMap.1 hmem, fun t ht left hl => hle left (List.mem_filterMap.2 ⟨t, ht, hl⟩)⟩

/-- The image after a time has passed, as one map of its records. -/
theorem image_pass (d : Nat) (image : Vector QuantityRun 24) :
    (Vector.ofFn fun q : Fin 24 => { image[q] with age := (image[q]).age.pass d })
      = image.map fun r => { r with age := r.age.map (· - d) } := by
  refine Vector.ext fun i hi => ?_
  rw [Vector.getElem_ofFn, Vector.getElem_map]
  rfl

/-- Settles O2: the branches of `State.idle`, the timer that runs out first, and the passing of time. -/
theorem emptyQueueLetsTimePass : Obligations.EmptyQueueLetsTimePass := by
  intro s hs
  rw [step_empty hs]
  refine ⟨fun hh => ?_, fun hh i hi => ?_, fun hh hd d hu => ?_, fun d => ?_⟩
  · unfold State.idle
    rw [if_pos hh]
  · unfold State.idle
    rw [if_neg (by simp [hh]), hi]
  · obtain ⟨⟨t, ht, htd⟩, hle⟩ := Part.untilNext_eq_some hu
    refine ⟨Nat.pos_of_ne_zero fun h0 => Part.due_eq_none hd ht (h0 ▸ htd), ?_, hle⟩
    unfold State.idle
    rw [if_neg (by simp [hh]), hd, hu]
  · unfold State.elapse Part.pass
    rw [image_pass]
    rfl

end Sys2Proof.Machine
end
section
/-! PROOFS. O3, O4, O5: the power-on reset (R17, R33, R58, R92, R105, R126, R140, R168, R177, R180). -/

namespace Sys2Proof.Machine

/-- The state after a power-on reset is the one that the command leaves, with the straps and pins of log 1. -/
theorem reset_part_eq_powerOn : State.reset.part = Part.powerOn 0 State.resetPins := by
  decide

/-- Settles O3. -/
theorem resetStateAsStated : Obligations.ResetStateAsStated := by
  refine ⟨rfl, reset_part_eq_powerOn, rfl, rfl, rfl, by decide, rfl, rfl, rfl, rfl, rfl, fun q hq => ?_⟩
  exact startImage_of_ne _ hq

/-- Settles O4: the stable laws hold after every power-on reset; the others are evaluated. -/
theorem resetStateIsLawful : Obligations.ResetStateIsLawful := by
  have stable : ∀ {P : Part → Prop}, Part.Stable P → P State.reset.part := fun h => by
    rw [reset_part_eq_powerOn]
    exact h.reset 0 State.resetPins
  refine ⟨by decide, stable meterLaw_stable, (Part.counterLaw_iff _).2 (stable countersKept_stable),
    (Part.linesLaw_iff _).2 (stable linesKept_stable), (Part.axisLaw_iff _).2 (stable axesLawful_stable),
    (Part.freshLaw_iff _).2 fun x => stable (freshAt_stable x), by decide, by decide⟩

end Sys2Proof.Machine
end

section
/-! SUPPORT. Placements in the port C queue (R170, R171, R174): at an idle port with nothing waiting, at a busy one,
and what they leave as it was. -/

namespace Sys2Proof.Machine

/-! ### An idle port, and a busy one -/

/-- R174: a placement at an idle port with nothing waiting goes into transmission at once. -/
theorem Output.placeC_idle {o : Output} (htx : o.tx.c = none) (hu : o.urgent = []) (hr : o.routine = []) (t : Tables)
    (v : List Word) (urgent : Bool) (e : CEntry) : o.placeC t v urgent e = o.transmitC t v e := by
  obtain ⟨u, r, dq, sq, tx, k, a, b, seen, timer⟩ := o
  subst hu hr
  have idle : tx.c = none := htx
  cases urgent <;>
    simp [Output.placeC, Output.insertC, Output.waitingC, Config.placesC, Output.startIfIdle, idle, Output.takeNext]

/-- R171: at a busy port with a place the frame waits behind those of its class. -/
theorem Output.placeC_busy {o : Output} (htx : o.tx.c.isSome = true) (hn : o.waitingC < 16) (t : Tables)
    (v : List Word) (urgent : Bool) (e : CEntry) : o.placeC t v urgent e =
      if urgent then { o with urgent := o.urgent ++ [e] } else { o with routine := o.routine ++ [e] } := by
  have busy : o.tx.c ≠ none := Option.isSome_iff_ne_none.1 htx
  cases urgent <;> simp [Output.placeC, Output.insertC, Config.placesC, hn, Output.startIfIdle, busy]

/-! ### What a placement leaves -/

/-- The output side `o'` differs from `o` in port C's queue, the counters, the drop records and the events-seen
set alone; a transmission on port C goes on. -/
structure Output.OnlyC (o o' : Output) : Prop where
  driveQueue : o'.driveQueue = o.driveQueue
  sensorQueue : o'.sensorQueue = o.sensorQueue
  statusTimer : o'.statusTimer = o.statusTimer
  txS : o'.tx.s = o.tx.s
  txD : o'.tx.d = o.tx.d
  txC : o.tx.c.isSome = true → o'.tx.c = o.tx.c

namespace Output.OnlyC

variable {o o' o'' : Output}

theorem refl (o : Output) : o.OnlyC o := ⟨rfl, rfl, rfl, rfl, rfl, fun _ => rfl⟩

theorem trans (h₁ : o.OnlyC o') (h₂ : o'.OnlyC o'') : o.OnlyC o'' :=
  ⟨h₂.driveQueue.trans h₁.driveQueue, h₂.sensorQueue.trans h₁.sensorQueue, h₂.statusTimer.trans h₁.statusTimer,
   h₂.txS.trans h₁.txS, h₂.txD.trans h₁.txD,
   fun h => (h₂.txC (by rw [h₁.txC h]; exact h)).trans (h₁.txC h)⟩

/-- All three transmissions, when port C is busy. -/
theorem tx (h : o.OnlyC o') (hc : o.tx.c.isSome = true) : o'.tx = o.tx := by
  cases ho : o.tx
  cases ho' : o'.tx
  have h1 := h.txC hc
  have h2 := h.txS
  have h3 := h.txD
  rw [ho, ho'] at h1 h2 h3
  simp_all

theorem noteDrop (d : DropRecord) (o : Output) : o.OnlyC (o.noteDrop d) := by
  unfold Output.noteDrop
  dsimp only
  repeat' split
  all_goals exact ⟨rfl, rfl, rfl, rfl, rfl, fun _ => rfl⟩

theorem see (k : EventKind) (o : Output) : o.OnlyC (o.see k) := ⟨rfl, rfl, rfl, rfl, rfl, fun _ => rfl⟩

theorem insertC (urgent : Bool) (e : CEntry) (o : Output) : o.OnlyC (o.insertC urgent e).1 := by
  unfold Output.insertC
  repeat' split
  all_goals exact ⟨rfl, rfl, rfl, rfl, rfl, fun _ => rfl⟩

/-- A transmission that begins on an idle port C. -/
theorem transmitC (t : Tables) (v : List Word) (e : CEntry) {o : Output} (h : o.tx.c = none) :
    o.OnlyC (o.transmitC t v e) := by
  unfold Output.transmitC
  split <;> exact ⟨rfl, rfl, rfl, rfl, rfl, fun hc => by rw [h] at hc; cases hc⟩

theorem startIfIdle (t : Tables) (v : List Word) (o : Output) : o.OnlyC (o.startIfIdle t v .c) := by
  unfold Output.startIfIdle
  split
  next h =>
    have idle : o.tx.c = none := Option.isNone_iff_eq_none.1 h
    simp only [Output.takeNext]
    split
    next e rest _ =>
      exact .trans (o' := { o with urgent := rest }) ⟨rfl, rfl, rfl, rfl, rfl, fun _ => rfl⟩ (transmitC t v e idle)
    next e rest _ _ =>
      exact .trans (o' := { o with routine := rest }) ⟨rfl, rfl, rfl, rfl, rfl, fun _ => rfl⟩ (transmitC t v e idle)
    · exact .refl o
  · exact .refl o

theorem placeQuiet (t : Tables) (v : List Word) (urgent : Bool) (e : CEntry) (o : Output) :
    o.OnlyC (o.placeQuiet t v urgent e) := by
  have placed := (insertC urgent e o).trans (startIfIdle t v _)
  unfold Output.placeQuiet
  dsimp only
  split
  · exact placed.trans (noteDrop _ _)
  · exact placed

theorem drop (t : Tables) (v : List Word) (d : DropRecord) (o : Output) : o.OnlyC (o.drop t v d) := by
  have seen := (noteDrop d o).trans (see .dropRecorded _)
  unfold Output.drop
  dsimp only
  split
  · split
    · exact seen.trans (placeQuiet t v _ _ _)
    · exact seen
  · exact noteDrop d o

theorem dropAll (t : Tables) (v : List Word) (ds : List DropRecord) (o : Output) : o.OnlyC (o.dropAll t v ds) := by
  unfold Output.dropAll
  induction ds generalizing o with
  | nil => exact .refl o
  | cons d ds ih => exact (drop t v d o).trans (ih _)

theorem placeC (t : Tables) (v : List Word) (urgent : Bool) (e : CEntry) (o : Output) :
    o.OnlyC (o.placeC t v urgent e) := by
  have placed := (insertC urgent e o).trans (startIfIdle t v _)
  unfold Output.placeC
  dsimp only
  split
  · exact placed.trans (drop t v _ _)
  · exact placed

theorem raise (t : Tables) (v : List Word) (k : EventKind) (ws : List Word) (o : Output) :
    o.OnlyC (o.raise t v k ws) := by
  unfold Output.raise
  dsimp only
  split
  · exact (see k o).trans (placeC t v _ _ _)
  · exact see k o

theorem requestStatus (t : Tables) (v : List Word) (o : Output) : o.OnlyC (o.requestStatus t v) := by
  unfold Output.requestStatus
  split
  · exact .refl o
  · exact placeC t v _ _ o

end Output.OnlyC

end Sys2Proof.Machine
end
section
/-! PROOFS. O5: POWER_ON_RESET. -/

namespace Sys2Proof.Machine

/-- R54: in UNCONFIGURED the permit set is empty. -/
theorem Ctx.permitSet_unconfigured {c : Ctx} (h : c.sen.mode = .unconfigured) : c.permitSet = 0 := by
  have : c.operating = false := by simp [Ctx.operating, h]
  simp [Ctx.permitSet, this]

/-- R55: in UNCONFIGURED an empty permit set stays as it is. -/
theorem Part.formPermit_unconfigured {p : Part} (hm : p.sen.mode = .unconfigured) (h0 : p.sen.permit = 0) :
    p.formPermit = p := by
  unfold Part.formPermit
  dsimp only
  rw [Ctx.permitSet_unconfigured (c := p.ctx) hm, h0, if_pos rfl]

/-- The line set is formed at each axis: nothing but the records and the line sets that wait is changed. -/
theorem Acting.setAxes_eq (c : Ctx) (t : PerAxis AxisRun) (a : Acting) :
    a.setAxes c t = { a with axes := t, lineWrites := (a.setAxes c t).lineWrites } := by
  have h1 := Acting.setAxes_axes c t a
  have h2 := Acting.setAxes_pointing c t a
  have h3 := Acting.setAxes_search c t a
  have h4 := Acting.setAxes_seq c t a
  have h5 := Acting.setAxes_out c t a
  generalize a.setAxes c t = b at *
  cases b
  cases h1
  cases h2
  cases h3
  cases h4
  cases h5
  rfl

/-- A change of axis records that sends nothing and changes no state requests nothing. -/
theorem Acting.shift_silent (c : Ctx) (f : Axis → AxisRun → AxisRun) (a : Acting)
    (h : ∀ x, (f x (a.axes.get x)).state = (a.axes.get x).state) :
    ∃ ws, a.shift c (fun _ => none) f =
      { a with
        axes := ⟨f .mast a.axes.mast, f .pan a.axes.pan, f .tilt a.axes.tilt⟩
        pointing := a.pointing.watch ⟨f .mast a.axes.mast, f .pan a.axes.pan, f .tilt a.axes.tilt⟩
        lineWrites := ws } := by
  have hm := h .mast
  have hp := h .pan
  have ht := h .tilt
  simp only [PerAxis.get_mast, PerAxis.get_pan, PerAxis.get_tilt] at hm hp ht
  unfold Acting.shift
  dsimp only
  rw [Acting.setAxes_eq]
  generalize (a.setAxes c _).lineWrites = ws
  exact ⟨ws, by simp [Acting.sendDemands, Acting.reportAxes, axisList, hm, hp, ht]⟩

/-- ESTOP finds the axes at their start, and leaves them, their clients and the output side there. -/
theorem Acting.cutOffAll_start {c : Ctx} (hm : c.sen.mode = .unconfigured) (s0 period : Nat) :
    ∃ ws, (Acting.start s0 period).cutOffAll c = { Acting.start s0 period with lineWrites := ws } := by
  have zeros : immediateZeros c everyAxis = fun _ => none := by
    funext x
    simp [immediateZeros, Ctx.operating, hm]
  obtain ⟨ws, shifted⟩ := Acting.shift_silent c (fun _ r => r.cutOff) (Acting.start s0 period)
    (fun x => by cases x <;> rfl)
  refine ⟨ws, ?_⟩
  unfold Acting.cutOffAll
  rw [zeros, shifted]
  rfl

theorem Tables.default_own (straps : BitVec 2) : (Tables.default straps).own.val = 24 + straps.toNat := by
  have := straps.isLt
  simp only [Tables.own, Tables.default, Fin.val_ofNat]
  omega

/-- R155, R168: after a power-on reset the maintenance node alone has a meter. -/
theorem Tables.default_fullMeters (straps : BitVec 2) (n : Fin 32) :
    (Tables.default straps).fullMeters[n] = if n.val = 1 then 16000 else 0 := by
  have hown := Tables.default_own straps
  rw [Tables.fullMeters_get]
  by_cases h1 : n = 1
  · subst h1
    have fixed : ¬((1 : Fin 32).val = 31 ∨ (1 : Fin 32) = (Tables.default straps).own) := by
      rintro (h | h)
      · simp at h
      · rw [← h] at hown
        simp at hown
        omega
    have entry : (Tables.default straps).nodes[(1 : Fin 32)] = NodeEntry.maintenance :=
      vector_set_self (Vector.replicate 32 NodeEntry.absent) 1 _
    unfold Tables.node
    rw [if_neg fixed, entry]
    decide
  · have : (Tables.default straps).nodes[n] = NodeEntry.absent :=
      (vector_set_of_ne (Vector.replicate 32 NodeEntry.absent) (i := 1) h1 _).trans (Vector.getElem_replicate _)
    rw [if_neg fun h : n.val = 1 => h1 (Fin.ext h)]
    unfold Tables.node
    split
    · rfl
    · rw [this]
      rfl

/-- R24: after the first sample ESTOP is the level of its pin. -/
theorem Sensed.powerOn_estop (t : Tables) (pins : BitVec 8) : (Sensed.powerOn t pins).estop = pins.getLsbD 0 := by
  simp [Sensed.powerOn, Sensed.estop, firstFilters]

/-- R33, R174: the ESTOP_CHANGE of the first sample is in transmission. -/
theorem Output.raise_estop_start {t : Tables} (ht : t.report = .default) (v : List Word) :
    (Output.start 100).raise t v .estopChange [1] =
      { Output.start 100 with
        seen := eventBit .estopChange, tx := ⟨some ⟨eventFrame t .estopChange [1], 162⟩, none, none⟩ } := by
  have on : t.enabled .estopChange = true := by
    unfold Tables.enabled
    rw [ht]
    decide
  unfold Output.raise
  dsimp only
  rw [if_pos on, Output.placeC_idle rfl rfl rfl]
  rfl

/-- The part after a power-on reset: what it senses is as the first sample leaves it; an open stop loop raises its
event. -/
theorem Part.powerOn_eq (straps : BitVec 2) (pins : BitVec 8) :
    ∃ ws, Part.powerOn straps pins =
      { tab := Tables.default straps
        sen := Sensed.powerOn (Tables.default straps) pins
        act := { Acting.start 50 100 with
          lineWrites := ws
          out := if pins.getLsbD 0 then
              { Output.start 100 with
                seen := eventBit .estopChange
                tx := ⟨some ⟨eventFrame (Tables.default straps) .estopChange [1], 162⟩, none, none⟩ }
            else Output.start 100 } } := by
  have hestop := Sensed.powerOn_estop (Tables.default straps) pins
  unfold Part.powerOn
  dsimp only
  rw [hestop]
  cases hl : pins.getLsbD 0
  · exact ⟨[], rfl⟩
  · obtain ⟨ws, hws⟩ := Acting.cutOffAll_start (c := ⟨Tables.default straps, Sensed.powerOn (Tables.default straps) pins⟩)
      rfl 50 100
    refine ⟨ws, ?_⟩
    have cut : Part.acting Acting.cutOffAll
        { tab := Tables.default straps, sen := Sensed.powerOn (Tables.default straps) pins, act := Acting.start 50 100 }
        = { tab := Tables.default straps, sen := Sensed.powerOn (Tables.default straps) pins
            act := { Acting.start 50 100 with lineWrites := ws } } := congrArg (Part.mk _ _) hws
    rw [if_pos rfl]
    unfold Part.estopChanged
    dsimp only
    rw [hestop, hl, if_pos rfl]
    refine (congrArg (fun p : Part => p.formPermit.acting _) cut).trans ?_
    rw [Part.formPermit_unconfigured rfl rfl]
    exact congrArg (fun o : Output => Part.mk (Tables.default straps) (Sensed.powerOn (Tables.default straps) pins)
      { Acting.start 50 100 with lineWrites := ws, out := o }) (Output.raise_estop_start rfl _)

/-- Settles O5. -/
theorem powerOnResetStartsEverything : Obligations.PowerOnResetStartsEverything := by
  intro straps pins s
  obtain ⟨ws, hp⟩ := Part.powerOn_eq straps pins
  refine ⟨{ s with part := Part.powerOn straps pins }, rfl, rfl, ?_⟩
  rw [hp]
  refine ⟨rfl, Tables.default_own straps, rfl, rfl, rfl, rfl, rfl, rfl, rfl, fun q => ?_, fun k => ?_,
    Tables.default_fullMeters straps, rfl, rfl, rfl, rfl, rfl, Sensed.powerOn_estop _ pins, rfl⟩
  · by_cases h : q = 11
    · subst h
      exact Sensed.powerOn_image_self _ pins
    · rw [if_neg h]
      exact Sensed.powerOn_image_of_ne _ pins h
  · simp [Sensed.powerOn, firstFilters]

end Sys2Proof.Machine
end

section
/-! PROOFS. O6: RESET (R18, R34, R59, R92, R105, R126, R140, R168, R177, R178, R181). -/

namespace Sys2Proof.Machine

/-! ### What an evaluation does in UNCONFIGURED -/

/-- The acting side `b` differs from `a` in the line sets that wait and in port C's queue with its counters, drop
records and events seen alone. -/
structure Acting.Quiet (a b : Acting) : Prop where
  axes : b.axes = a.axes
  pointing : b.pointing = a.pointing
  search : b.search = a.search
  seq : b.seq = a.seq
  out : a.out.OnlyC b.out

namespace Acting.Quiet

theorem refl (a : Acting) : a.Quiet a := ⟨rfl, rfl, rfl, rfl, .refl _⟩

theorem trans {a b d : Acting} (h₁ : a.Quiet b) (h₂ : b.Quiet d) : a.Quiet d :=
  ⟨h₂.axes.trans h₁.axes, h₂.pointing.trans h₁.pointing, h₂.search.trans h₁.search, h₂.seq.trans h₁.seq,
   h₁.out.trans h₂.out⟩

theorem formLines (c : Ctx) (a : Acting) : a.Quiet (a.formLines c) :=
  ⟨a.formLines_axes c, a.formLines_pointing c, a.formLines_search c, a.formLines_seq c, by
    rw [Acting.formLines_out]
    exact .refl _⟩

theorem raise (c : Ctx) (k : EventKind) (ws : List Word) (a : Acting) : a.Quiet (a.raise c k ws) :=
  ⟨rfl, rfl, rfl, rfl, .raise _ _ _ _ _⟩

theorem groupEvent (c : Ctx) (rules : List Rule) (d : Performed) (old new : Group) (a : Acting) :
    a.Quiet (a.groupEvent c rules d old new) := by
  unfold Acting.groupEvent
  split
  · exact refl a
  · exact raise c _ _ a

theorem groupEvents (c : Ctx) (rules : List Rule) (d : Performed) (changes : List (Group × Group)) (a : Acting) :
    a.Quiet (changes.foldl (fun a ch => a.groupEvent c rules d ch.1 ch.2) a) := by
  induction changes generalizing a with
  | nil => exact refl a
  | cons ch rest ih => exact (groupEvent c rules d ch.1 ch.2 a).trans (ih _)

end Acting.Quiet

/-- R49: no action is performed in UNCONFIGURED. -/
theorem Acting.perform_unconfigured {c : Ctx} (hm : c.sen.mode = .unconfigured) (rules : List Rule)
    (changes : List (Group × Group)) (a : Acting) : a.perform c rules changes = (a, .nothing) := by
  unfold Acting.perform
  rw [if_pos (by simp [Ctx.operating, hm])]

/-- The groups after one evaluation (R43, R44). -/
def Part.evaluatedGroups (concerned : Group → Bool) (p : Part) : List Group :=
  p.sen.groups.map fun g => if concerned g then g.evaluated p.tab.activeRules p.sen else g

/-- R48, R49, R54: in UNCONFIGURED an evaluation changes the groups, forms the line set and raises events. -/
theorem Part.evaluate_unconfigured {p : Part} (hm : p.sen.mode = .unconfigured) (h0 : p.sen.permit = 0)
    (concerned : Group → Bool) :
    ∃ a, p.act.Quiet a ∧
      p.evaluate concerned = { p with sen := { p.sen with groups := p.evaluatedGroups concerned }, act := a } := by
  set formed : Part := ({ p with sen := { p.sen with groups := p.evaluatedGroups concerned } } : Part).formLines
    with hformed
  have hp : formed.formPermit = formed := Part.formPermit_unconfigured hm h0
  refine ⟨(p.sen.groups.zip (p.evaluatedGroups concerned)).foldl
    (fun a ch => a.groupEvent formed.ctx p.tab.activeRules .nothing ch.1 ch.2) formed.act,
    (Acting.Quiet.formLines _ _).trans (.groupEvents _ _ _ _ _), ?_⟩
  have he : p.evaluate concerned =
      (let r := formed.formPermit.act.perform formed.formPermit.ctx p.tab.activeRules
        (p.sen.groups.zip (p.evaluatedGroups concerned))
      let a := (p.sen.groups.zip (p.evaluatedGroups concerned)).foldl
        (fun a ch => a.groupEvent formed.formPermit.ctx p.tab.activeRules r.2 ch.1 ch.2) r.1
      { formed.formPermit with act := a }) := rfl
  rw [he, hp]
  dsimp only
  rw [Acting.perform_unconfigured (c := formed.ctx) hm]
  rfl

/-- What a part in UNCONFIGURED with an empty permit set keeps through the line set's arrivals. -/
structure Part.Quiet (p q : Part) : Prop where
  sense : Part.SameSense p q
  permit : q.sen.permit = p.sen.permit
  act : p.act.Quiet q.act

namespace Part.Quiet

variable {p q : Part}

theorem trans {r : Part} (h₁ : p.Quiet q) (h₂ : q.Quiet r) : p.Quiet r :=
  ⟨h₁.sense.trans h₂.sense, h₂.permit.trans h₁.permit, h₁.act.trans h₂.act⟩

theorem evaluate (hm : p.sen.mode = .unconfigured) (h0 : p.sen.permit = 0) (concerned : Group → Bool) :
    p.Quiet (p.evaluate concerned) := by
  obtain ⟨a, ha, he⟩ := Part.evaluate_unconfigured hm h0 concerned
  refine ⟨.evaluate concerned p, ?_, ?_⟩ <;> rw [he]
  exact ha

theorem takeLines (hm : p.sen.mode = .unconfigured) (h0 : p.sen.permit = 0) (v : Int) : p.Quiet (p.takeLines v) :=
  trans ⟨.withLines p v, rfl, .refl _⟩ (evaluate (p := { p with sen := p.sen.writeLines v }) hm h0 _)

theorem formLines (p : Part) : p.Quiet p.formLines := ⟨.withAct _ _, rfl, .formLines _ _⟩

theorem followLines (n : Nat) (hm : p.sen.mode = .unconfigured) (h0 : p.sen.permit = 0) :
    p.Quiet (Part.followLines n p) := by
  induction n generalizing p with
  | zero => exact ⟨.refl p, rfl, .refl _⟩
  | succ n ih =>
    unfold Part.followLines
    split
    · exact ⟨.refl p, rfl, .refl _⟩
    next v rest _ =>
      have first : p.Quiet ({ p with act := { p.act with lineWrites := rest } } : Part) :=
        ⟨.withAct _ _, rfl, rfl, rfl, rfl, rfl, .refl _⟩
      have taken := first.trans (takeLines (p := { p with act := { p.act with lineWrites := rest } }) hm h0 v)
      exact taken.trans (ih (taken.sense.mode.trans hm) (taken.permit.trans h0))

theorem settle (hm : p.sen.mode = .unconfigured) (h0 : p.sen.permit = 0) : p.Quiet p.settle :=
  (formLines p).trans (followLines _ hm h0)

end Part.Quiet

/-! ### The reset -/

/-- R39, R57: the groups of a bank start PRESUMED, with counters 0. -/
theorem formGroupsFrom_presumed (rules : List Rule) (i : Nat) (start : Option Nat) :
    ∀ g ∈ formGroupsFrom i start rules, g.state = .presumed ∧ g.trueRun = 0 ∧ g.falseRun = 0 := by
  induction rules generalizing i start with
  | nil =>
    cases start <;> simp [formGroupsFrom]
  | cons r rest ih =>
    unfold formGroupsFrom
    dsimp only
    repeat' split
    · exact ih _ _
    · simpa using ih _ _
    · simpa using ih _ _
    · exact ih _ _

/-- R3: LINES stays FRESH, and without an age timer, in the form in which it is shown to be steady. -/
def Part.LinesFresh (p : Part) : Prop :=
  (p.sen.image[(11 : Fin 24)]).state = .fresh ∧ (p.sen.image[(11 : Fin 24)]).age = none

theorem linesFresh_steady : Part.Steady Part.LinesFresh where
  sense hp _ _ hi _ := by
    unfold Part.LinesFresh
    rw [hi]
    exact hp
  reach _ _ _ hp := hp
  form _ hp := hp
  lines p v _ hp := by
    unfold Part.LinesFresh
    rw [Sensed.writeLines_self]
    exact hp
  rest _ _ _ hp := hp

/-- R181: a RESET frame is the reset, its REPLY and the one arrival of the line set. -/
theorem Part.resetFrame_nil (sender : Node) (p : Part) :
    p.resetFrame sender [] = (p.warm.reply sender .reset .done []).takeLines p.warm.lineSet := by
  have : (p.warm.reply sender .reset .done []).lineSet = p.warm.lineSet := congrArg lineNumber rfl
  unfold Part.resetFrame
  dsimp only
  rw [if_neg (by simp), this]

/-- R174, R181: the REPLY to a RESET is the first frame, and in transmission. -/
theorem Part.warm_reply_out (sender : Node) (p : Part) :
    (p.warm.reply sender .reset .done []).act.out =
      { Output.start p.tab.report.period with
        tx := ⟨some ⟨replyFrame p.tab sender .reset .done [], frameTime (replyFrame p.tab sender .reset .done [])⟩,
          none, none⟩ } := by
  have h : (p.warm.reply sender .reset .done []).act.out
      = (Output.start p.tab.report.period).placeC p.tab (statusWords p.warm.ctx p.warm.act) true
          ⟨.own, .frame (replyFrame p.tab sender .reset .done [])⟩ := rfl
  rw [h, Output.placeC_idle rfl rfl rfl]
  rfl

/-- Settles O6. -/
theorem warmResetKeepsTables : Obligations.WarmResetKeepsTables := by
  intro s h hc
  set p := (s.entered h).warm with hp
  set replied := p.reply h.src .reset .done [] with hreplied
  have hout : replied.act.out = { Output.start s.part.tab.report.period with
      tx := ⟨some ⟨replyFrame s.part.tab h.src .reset .done [],
        frameTime (replyFrame s.part.tab h.src .reset .done [])⟩, none, none⟩ } :=
    Part.warm_reply_out h.src (s.entered h)
  have himage : ∀ q : Fin 24, p.sen.image[q] =
      if q = 11 then QuantityRun.linesStart s.part.sen.lines else QuantityRun.start := by
    intro q
    by_cases hq : q = 11
    · subst hq
      exact warmImage_self s.part.sen.image
    · rw [if_neg hq]
      exact warmImage_of_ne s.part.sen.image hq
  have taken : replied.Quiet (replied.takeLines p.lineSet) := .takeLines rfl rfl _
  have after : replied.Quiet (replied.takeLines p.lineSet).settle := taken.trans
    (.settle taken.sense.mode taken.permit)
  have fresh : (replied.takeLines p.lineSet).settle.LinesFresh := by
    refine linesFresh_steady.settle (linesFresh_steady.takeLines p ?_)
    unfold Part.LinesFresh
    exact ⟨congrArg QuantityRun.state (himage 11), congrArg QuantityRun.age (himage 11)⟩
  have busy : replied.act.out.tx.c.isSome = true := by rw [hout]; rfl
  refine ⟨p, s.settled (replied.takeLines p.lineSet), ?_, rfl, rfl, rfl, rfl, hc.1, rfl, rfl, rfl, rfl, rfl, rfl, rfl,
    himage, Tables.fullMeters_get s.part.tab, rfl, formGroupsFrom_presumed _ _ _, rfl, rfl, rfl, rfl, rfl, rfl, rfl,
    rfl, rfl, rfl, rfl, rfl, rfl, rfl, rfl, ?_, ?_⟩
  · refine (State.run_taken hc (by decide) (by decide)).trans ?_
    exact congrArg (fun q => Host.Outcome.next (s.settled q)) (Part.resetFrame_nil h.src (s.entered h))
  · obtain ⟨a, _, he⟩ := Part.evaluate_unconfigured (p := { replied with sen := replied.sen.writeLines p.lineSet }) rfl rfl
      fun g => g.uses replied.tab.activeRules 11
    have he' : replied.takeLines p.lineSet = _ := he
    rw [he']
    refine ⟨?_, rfl⟩
    exact congrArg QuantityRun.value (Sensed.writeLines_self replied.sen p.lineSet)
  · refine ⟨after.sense.tab, after.sense.mode, after.permit, after.sense.testOn, after.sense.testOff, after.sense.pins,
      after.sense.filters, after.sense.sampleTimer, after.sense.refillTimer, fun q hq => ?_, fresh.1, fresh.2,
      fun n => ?_, after.act.axes, after.act.pointing, after.act.search, after.act.seq, ?_, ?_, ?_, ?_⟩
    · exact (after.sense.image q hq).trans ((himage q).trans (if_neg hq))
    · exact (congrArg (fun m : Vector Nat 32 => m[n]) after.sense.meters).trans (Tables.fullMeters_get s.part.tab n)
    · exact after.act.out.driveQueue.trans (by rw [hout]; rfl)
    · exact after.act.out.sensorQueue.trans (by rw [hout]; rfl)
    · exact (after.act.out.tx busy).trans (by rw [hout])
    · exact after.act.out.statusTimer.trans (by rw [hout]; rfl)

end Sys2Proof.Machine
end

section
/-! PROOFS. O9, O10: SAMPLE, and its pairs (R4 to R8, R175). -/

namespace Sys2Proof.Machine

/-! ### One pair -/

/-- R5, R6: a pair passes when its sender is the entry's and its value lies in the entry's range. -/
theorem QuantityEntry.takes_iff {e : QuantityEntry} {sender : Node} {v : Int} :
    e.takes sender v = true ↔ (e.source.val = 31 ∨ e.source = sender) ∧ e.lo ≤ v ∧ v ≤ e.hi := by
  simp only [QuantityEntry.takes, Bool.and_eq_true, Bool.or_eq_true, decide_eq_true_eq, and_assoc]

theorem Part.takePair_taken {p : Part} {sender : Node} {q : Fin 24} {v : Int}
    (h : (p.tab.quantity q).takes sender v = true) : p.takePair sender q v =
      ({ p with sen := p.sen.setQuantity q ((p.sen.image[q]).take (p.tab.quantity q) v) } : Part).valueTaken q v :=
  if_pos h

theorem Part.takePair_faulted {p : Part} {sender : Node} {q : Fin 24} {v : Int}
    (h : (p.tab.quantity q).takes sender v = false) :
    p.takePair sender q v = { p with sen := p.sen.setQuantity q (p.sen.image[q]).fault } :=
  if_neg (by rw [h]; decide)

/-- R8: the hand-offs of a value taken leave the tables and the records as they were. -/
theorem Part.SameSense.valueTaken (q : Fin 24) (v : Int) (p : Part) : Part.SameSense p (p.valueTaken q v) := by
  have told : Part.SameSense p (p.formLines.evaluateFor q) :=
    (Part.SameSense.withAct p _).trans (.evaluate _ p.formLines)
  unfold Part.valueTaken
  dsimp only
  split
  · exact (told.trans (.withAct _ _)).trans (.settle _)
  · exact told.trans (.settle _)

/-- R7, R12: the record after a pair that names it. -/
def QuantityRun.afterPair (e : QuantityEntry) (sender : Node) (v : Int) (r : QuantityRun) : QuantityRun :=
  if e.takes sender v then r.take e v else r.fault

theorem Part.SameSense.takePair (sender : Node) (q : Fin 24) (v : Int) (p : Part) :
    Part.SameSense
      { p with sen := p.sen.setQuantity q ((p.sen.image[q]).afterPair (p.tab.quantity q) sender v) }
      (p.takePair sender q v) := by
  unfold QuantityRun.afterPair
  cases h : (p.tab.quantity q).takes sender v
  · rw [Part.takePair_faulted h, if_neg (by decide)]
    exact .refl _
  · rw [Part.takePair_taken h, if_pos rfl]
    exact .valueTaken q v _

/-- Settles O10. -/
theorem pairPassesOrFaults : Obligations.PairPassesOrFaults := by
  intro p sender q v
  refine ⟨fun h => Part.takePair_taken (QuantityEntry.takes_iff.2 h), fun h => ?_, fun h => ?_, fun h => ?_⟩
  · exact Part.takePair_faulted (Bool.eq_false_iff.2 fun ht => h (QuantityEntry.takes_iff.1 ht))
  · unfold Part.valueTaken
    dsimp only
    rw [if_neg h]
    rfl
  · unfold Part.valueTaken
    dsimp only
    rw [if_pos h]
    rfl

/-! ### The pairs of a frame -/

/-- R145: the pairs of a well-formed SAMPLE name quantities. -/
theorem samplePairsOk_lt {id v : Word} {rest : List Word} (h : samplePairsOk (id :: v :: rest) = true) :
    id.toNat < 24 := by
  simp only [samplePairsOk, Bool.and_eq_true, decide_eq_true_eq] at h
  obtain ⟨⟨⟨h0, h1⟩, _⟩, _⟩ := h
  have := BitVec.toInt_eq_toNat_cond id
  have := id.isLt
  split at * <;> omega

theorem Fin.ofNat_eq_iff {id : Nat} (h : id < 24) (q : Fin 24) : Fin.ofNat 24 id = q ↔ id = q.val := by
  rw [Fin.ext_iff, Fin.val_ofNat, Nat.mod_eq_of_lt h]

/-- R4: the image after the pairs, but for LINES. -/
@[irreducible] def imageAfterPairs (t : Tables) (sender : Node) (ws : List Word) (image : Vector QuantityRun 24) :
    Vector QuantityRun 24 :=
  Vector.ofFn fun k => QuantityRun.afterPairs (t.quantity k) sender k ws image[k]

theorem imageAfterPairs_get (t : Tables) (sender : Node) (ws : List Word) (image : Vector QuantityRun 24) (k : Fin 24) :
    (imageAfterPairs t sender ws image)[k] = QuantityRun.afterPairs (t.quantity k) sender k ws image[k] := by
  unfold imageAfterPairs
  exact Vector.getElem_ofFn k.isLt

/-- Two parts that agree but for their images agree with images that do. -/
theorem Part.SameSense.withImage {p q : Part} (h : Part.SameSense p q) {I J : Vector QuantityRun 24}
    (hI : ∀ k : Fin 24, k ≠ 11 → J[k] = I[k]) :
    Part.SameSense { p with sen := { p.sen with image := I } } { q with sen := { q.sen with image := J } } :=
  ⟨h.tab, h.mode, h.held, h.pins, hI, h.filters, h.testOn, h.testOff, h.meters, h.sampleTimer, h.refillTimer⟩

theorem QuantityRun.afterPairs_named {e : QuantityEntry} {sender : Node} {q : Fin 24} {id v : Word}
    (h : id.toNat = q.val) (rest : List Word) (r : QuantityRun) :
    r.afterPairs e sender q (id :: v :: rest) = (r.afterPair e sender (e.reading v)).afterPairs e sender q rest := by
  rw [QuantityRun.afterPairs, if_pos h]
  rfl

theorem QuantityRun.afterPairs_other {e : QuantityEntry} {sender : Node} {q : Fin 24} {id v : Word}
    (h : id.toNat ≠ q.val) (rest : List Word) (r : QuantityRun) :
    r.afterPairs e sender q (id :: v :: rest) = r.afterPairs e sender q rest := by
  rw [QuantityRun.afterPairs, if_neg h]

/-- R4 to R8: the pairs leave each record as its own pairs make it, and all else but LINES, the groups and the
permit set as it was. -/
theorem Part.SameSense.takePairs (sender : Node) : ∀ (ws : List Word) (p : Part), samplePairsOk ws = true →
    Part.SameSense { p with sen := { p.sen with image := imageAfterPairs p.tab sender ws p.sen.image } }
      (p.takePairs sender ws)
  | [], p, _ => withImage (.refl p) fun k _ => (imageAfterPairs_get p.tab sender [] p.sen.image k).symm
  | [w], p, _ => withImage (.refl p) fun k _ => (imageAfterPairs_get p.tab sender [w] p.sen.image k).symm
  | id :: v :: rest, p, hw => by
    have hlt := samplePairsOk_lt hw
    set q : Fin 24 := Fin.ofNat 24 id.toNat with hq
    have one := takePair sender q ((p.tab.quantity q).reading v) p
    have others := takePairs sender rest (p.takePair sender q ((p.tab.quantity q).reading v))
      (samplePairsOk_ne_lines hw).2
    refine (one.withImage fun k hk => ?_).trans others
    have step := one.image k hk
    dsimp only at step
    rw [imageAfterPairs_get, imageAfterPairs_get, one.tab, step]
    by_cases e : k = q
    · rw [e, Sensed.setQuantity_self, QuantityRun.afterPairs_named ((Fin.ofNat_eq_iff hlt _).1 hq.symm)]
    · rw [Sensed.setQuantity_of_ne _ e, QuantityRun.afterPairs_other fun h => e ((Fin.ofNat_eq_iff hlt k).2 h).symm]

/-- R175: when the copy of a SAMPLE is offered to port C. -/
theorem Part.mirrors_sample_iff (p : Part) (h : Header) (ws : List Word) :
    p.mirrors h.port (frameOf h .sample ws) = true ↔
      (p.tab.node h.src).mirror = true ∧ h.port ≠ .c ∧ p.tab.ports.c.state = .opened := by
  simp only [Part.mirrors, frameOf, decide_true, Bool.true_or, Bool.true_and, Bool.and_eq_true, decide_eq_true_eq,
    and_assoc]

theorem Part.consume_sample_mirrored {p : Part} {h : Header} {ws : List Word}
    (hm : p.mirrors h.port (frameOf h .sample ws) = true) : p.consume h.port (frameOf h .sample ws) =
      (p.takePairs h.src ws).acting fun c a =>
        a.emit c fun t v o => o.mirror t v (p.tab.rewrite (frameOf h .sample ws)) :=
  if_pos hm

theorem Part.consume_sample_plain {p : Part} {h : Header} {ws : List Word}
    (hm : ¬p.mirrors h.port (frameOf h .sample ws) = true) : p.consume h.port (frameOf h .sample ws) =
      p.takePairs h.src ws :=
  if_neg hm

theorem Part.SameSense.consume_sample (p : Part) (h : Header) (ws : List Word) :
    Part.SameSense (p.takePairs h.src ws) (p.consume h.port (frameOf h .sample ws)) := by
  by_cases hm : p.mirrors h.port (frameOf h .sample ws) = true
  · rw [Part.consume_sample_mirrored hm]
    exact .withAct _ _
  · rw [Part.consume_sample_plain hm]
    exact .refl _

/-- Settles O9. -/
theorem sampleTakesItsPairs : Obligations.SampleTakesItsPairs := by
  refine ⟨fun s h ws hc => ?_, fun sender p => ⟨rfl, fun q id v rest hid => ?_⟩, fun e w => rfl⟩
  · have hform : formOk s.part.tab.own (frameOf h .sample ws) = true := hc.2.1.1
    have pairs := Part.SameSense.takePairs h.src ws (s.entered h) (Part.Stable.samplePairsOk_of_formOk hform rfl)
    have whole := (pairs.trans (.consume_sample (s.entered h) h ws)).trans (.settle _)
    refine ⟨s.settled ((s.entered h).consume h.port (frameOf h .sample ws)), State.run_consumed hc, rfl, whole.tab,
      fun q hq => (whole.image q hq).trans (imageAfterPairs_get _ _ _ _ q), whole.meters, whole.mode, whole.pins,
      whole.filters, whole.testOn, whole.testOff, whole.sampleTimer, whole.refillTimer, fun hm => ?_, fun hm => ?_⟩
    · rw [Part.consume_sample_plain fun h' => hm ((Part.mirrors_sample_iff (s.entered h) h ws).1 h')]
    · rw [Part.consume_sample_mirrored ((Part.mirrors_sample_iff (s.entered h) h ws).2 hm)]
      rfl
  · have hq : (Fin.ofNat 24 id.toNat : Fin 24) = q := (Fin.ofNat_eq_iff (hid ▸ q.isLt) q).2 hid
    rw [Part.takePairs]
    rw [hq]

end Sys2Proof.Machine
end

section
/-! SUPPORT. The DEMANDs that a change of axis records sends (R71, R77, R169): each waits for port D or is in
transmission there when the change is made. -/

namespace Sys2Proof.Machine

namespace Output

variable {o o' : Output} {f : Frame} {x : Axis}

theorem sends_of_onlyC (h : o.OnlyC o') (hs : o.sends f x) : o'.sends f x :=
  hs.imp (h.driveQueue ▸ ·) (h.txD ▸ ·)

/-- R174: a DEMAND that waits when the port begins still waits, or is in transmission. -/
theorem sends_startIfIdle (t : Tables) (v : List Word) (hs : o.sends f x) : (o.startIfIdle t v .d).sends f x := by
  unfold startIfIdle
  split
  next idle =>
    have none_sent : o.tx.d = none := Option.isNone_iff_eq_none.1 idle
    have waits : DEntry.demand x f ∈ o.driveQueue := by simpa [Output.sends, none_sent] using hs
    simp only [takeNext]
    split
    next e rest hq =>
      rw [hq] at waits
      rcases List.mem_cons.1 waits with rfl | later
      · exact .inr rfl
      · exact .inl later
    next hq =>
      rw [hq] at waits
      cases waits
  · exact hs

theorem mem_insertDemand (x : Axis) (f : Frame) (q : List DEntry) : DEntry.demand x f ∈ insertDemand x f q := by
  unfold insertDemand
  split
  next h =>
    obtain ⟨e, he, hx⟩ := List.any_eq_true.1 h
    exact List.mem_map.2 ⟨e, he, if_pos hx⟩
  · simp

theorem mem_insertDemand_of_ne {x y : Axis} (hxy : x ≠ y) {f : Frame} (g : Frame) {q : List DEntry}
    (h : DEntry.demand x f ∈ q) : DEntry.demand x f ∈ insertDemand y g q := by
  unfold insertDemand
  split
  · exact List.mem_map.2 ⟨_, h, if_neg (by simpa [DEntry.isDemandOf] using hxy)⟩
  · exact List.mem_append_left _ h

/-- R71, R176: at a port D that is not CLOSED a DEMAND that is placed is sent. -/
theorem sends_sendDemand {t : Tables} (hd : t.ports.d.state ≠ .closed) (v : List Word) (x : Axis) (rate : Int)
    (o : Output) : (o.sendDemand t v x rate).sends (demandFrame t x rate) x := by
  unfold sendDemand
  dsimp only
  rw [if_neg hd]
  exact sends_startIfIdle t v (.inl (mem_insertDemand x _ _))

theorem sends_sendDemand_of_ne {y : Axis} (hxy : x ≠ y) (t : Tables) (v : List Word) (rate : Int) (hs : o.sends f x) :
    (o.sendDemand t v y rate).sends f x := by
  unfold sendDemand
  dsimp only
  split
  · exact sends_of_onlyC (.drop _ _ _ _) hs
  · exact sends_startIfIdle t v (hs.imp_left (mem_insertDemand_of_ne hxy _))

end Output

namespace Acting

/-- R77: one axis's DEMAND of a change of axis records. -/
def sendOne (c : Ctx) (rate : Axis → Option Int) (x : Axis) (a : Acting) : Acting :=
  match rate x with
  | some v => a.emit c fun t w o => o.sendDemand t w x v
  | none => a

theorem sends_sendOne {c : Ctx} {rate : Axis → Option Int} {x : Axis} {v : Int} (hv : rate x = some v)
    (hd : c.tab.ports.d.state ≠ .closed) (a : Acting) :
    (a.sendOne c rate x).out.sends (demandFrame c.tab x v) x := by
  unfold sendOne
  rw [hv]
  exact Output.sends_sendDemand hd _ x v a.out

theorem sends_sendOne_of_ne {c : Ctx} {rate : Axis → Option Int} {x y : Axis} {f : Frame} {a : Acting} (hxy : x ≠ y)
    (hs : a.out.sends f x) : (a.sendOne c rate y).out.sends f x := by
  unfold sendOne
  split
  · exact Output.sends_sendDemand_of_ne hxy _ _ _ hs
  · exact hs

theorem sendDemands_eq (c : Ctx) (rate : Axis → Option Int) (a : Acting) :
    a.sendDemands c rate = ((a.sendOne c rate .mast).sendOne c rate .pan).sendOne c rate .tilt := rfl

theorem sends_sendDemands {c : Ctx} {rate : Axis → Option Int} {x : Axis} {v : Int} (hv : rate x = some v)
    (hd : c.tab.ports.d.state ≠ .closed) (a : Acting) :
    (a.sendDemands c rate).out.sends (demandFrame c.tab x v) x := by
  rw [sendDemands_eq]
  cases x
  case mast => exact sends_sendOne_of_ne (by decide) (sends_sendOne_of_ne (by decide) (sends_sendOne hv hd a))
  case pan => exact sends_sendOne_of_ne (by decide) (sends_sendOne hv hd _)
  case tilt => exact sends_sendOne hv hd _

theorem reportAxes_onlyC (c : Ctx) (old : PerAxis AxisRun) (a : Acting) : a.out.OnlyC (a.reportAxes c old).out := by
  unfold reportAxes
  generalize axisList = xs
  have all : ∀ b : Acting, b.out.OnlyC (xs.foldl
      (fun b x => if (a.axes.get x).state = (old.get x).state then b else b.requestStatus c) b).out := by
    induction xs with
    | nil => exact fun b => .refl _
    | cons x xs ih =>
      intro b
      refine .trans ?_ (ih _)
      dsimp only
      split
      · exact .refl _
      · exact .requestStatus _ _ _
  exact all a

/-- R71, R77: a change of axis records sends the DEMANDs of its rates. -/
theorem sends_shift {c : Ctx} {rate : Axis → Option Int} {x : Axis} {v : Int} (hv : rate x = some v)
    (hd : c.tab.ports.d.state ≠ .closed) (f : Axis → AxisRun → AxisRun) (a : Acting) :
    (a.shift c rate f).out.sends (demandFrame c.tab x v) x := by
  unfold shift
  exact Output.sends_of_onlyC (reportAxes_onlyC _ _ _) (sends_sendDemands hv hd _)

/-- R77, R178: in OPERATING a change with immediate zeros sends a DEMAND of 0 to each axis chosen. -/
theorem sends_zero {c : Ctx} {chosen : Axis → Bool} {x : Axis} (hx : chosen x = true) (hm : c.sen.mode = .operating)
    (hd : c.tab.ports.d.state ≠ .closed) (f : Axis → AxisRun → AxisRun) (a : Acting) :
    (a.shift c (immediateZeros c chosen) f).out.sends (demandFrame c.tab x 0) x :=
  sends_shift (if_pos (by simp [Ctx.operating, hm, hx])) hd f a

/-! ### The mast-down guard -/

theorem guardMast_of_not {c : Ctx} {a : Acting} (h : ¬(a.axes.mast.vPrev < 0 ∧ c.guardBlocks = true)) :
    a.guardMast c = a := if_neg h

/-- R78: the change of axis records by which the guard stops the mast. -/
def mastHeld (c : Ctx) (a : Acting) : Acting :=
  a.shift c (immediateZeros c fun x => decide (x = .mast)) fun x r => if decide (x = .mast) then r.held else r

theorem guardMast_of {c : Ctx} {a : Acting} (h : a.axes.mast.vPrev < 0 ∧ c.guardBlocks = true) :
    a.guardMast c = (a.mastHeld c).handAxes c a.axes := if_pos h

theorem mastHeld_axes (c : Ctx) (a : Acting) : (a.mastHeld c).axes = a.axes.set .mast a.axes.mast.held := by
  unfold mastHeld
  rw [shift_axes]
  rfl

theorem mastHeld_eq (c : Ctx) (a : Acting) : a.mastHeld c =
    a.shift c (immediateZeros c fun x => decide (x = .mast)) fun x r => if x = .mast then r.held else r := by
  simp only [mastHeld, decide_eq_true_eq]

theorem mastHeld_search (c : Ctx) (a : Acting) : (a.mastHeld c).search = a.search := shift_search _ _ _ _

theorem mastHeld_seq (c : Ctx) (a : Acting) : (a.mastHeld c).seq = a.seq := shift_seq _ _ _ _

theorem mastHeld_sends {c : Ctx} (hm : c.sen.mode = .operating) (hd : c.tab.ports.d.state ≠ .closed) (a : Acting) :
    (a.mastHeld c).out.sends (demandFrame c.tab .mast 0) .mast :=
  sends_zero (decide_eq_true rfl) hm hd _ a

end Acting

/-- R97: the guard blocks a mast at or below the clear height unless pan and tilt both lie in their stow windows. -/
theorem Ctx.guardBlocks_iff (c : Ctx) : c.guardBlocks = true ↔
    c.pos .mast ≤ c.tab.pointing.clearHeight ∧ ¬(c.inStow .pan = true ∧ c.inStow .tilt = true) := by
  simp only [Ctx.guardBlocks, Bool.and_eq_true, decide_eq_true_eq, Bool.not_eq_true', Bool.and_eq_false_iff,
    Decidable.not_and_iff_or_not, Bool.not_eq_true]

end Sys2Proof.Machine
end

section
/-! PROOFS. O11: AGE_EXPIRY (R10, R27, R78, R87). -/

namespace Sys2Proof.Machine

theorem AxisState.needsPosition_eq_false {st : AxisState} (h : st = .stopped ∨ st = .fault) :
    st.needsPosition = false := by
  rcases h with rfl | rfl <;> rfl

theorem AxisState.needsPosition_eq_true {st : AxisState} (hs : st ≠ .stopped) (hf : st ≠ .fault) :
    st.needsPosition = true := by
  cases st
  case stopped => exact absurd rfl hs
  case fault => exact absurd rfl hf
  all_goals rfl

namespace Part

/-- R10: the part after the line set is formed and the groups that use a quantity are evaluated. -/
def told (q : Fin 24) (p : Part) : Part := p.formLines.evaluate fun g => g.uses p.tab.activeRules q

theorem told_sense (q : Fin 24) (p : Part) : Part.SameSense p (p.told q) :=
  (Part.SameSense.withAct p _).trans (.evaluate _ p.formLines)

/-- R10, R78, R87, R121: what axis control, the guard and the search do with a record gone STALE. -/
def staleActs (q : Fin 24) (p : Part) : Acting :=
  if q = 0 then p.act.losePosition p.ctx .mast
  else if q = 1 then (p.act.losePosition p.ctx .pan).guardMast p.ctx
  else if q = 2 then (p.act.losePosition p.ctx .tilt).guardMast p.ctx
  else if q = 8 then p.act.enterCause p.ctx fun k => { k with levelStale := true }
  else p.act

/-- R10: the hand-offs of a record gone STALE. -/
theorem wentStale_eq (q : Fin 24) (p : Part) : p.wentStale q = { p.told q with act := (p.told q).staleActs q } := by
  unfold staleActs
  by_cases h0 : q = 0
  · subst h0; rfl
  by_cases h1 : q = 1
  · subst h1; rfl
  by_cases h2 : q = 2
  · subst h2; rfl
  have hn : axisOfQuantity q = none := by simp [axisOfQuantity, h0, h1, h2]
  rw [if_neg h0, if_neg h1, if_neg h2]
  unfold wentStale
  simp only [hn]
  by_cases h8 : q = 8
  · rw [if_pos h8, if_pos h8]; rfl
  · rw [if_neg h8, if_neg h8]; rfl

theorem staleActs_of_ne {q : Fin 24} {p : Part} (h0 : q ≠ 0) (h1 : q ≠ 1) (h2 : q ≠ 2) (h8 : q ≠ 8) :
    p.staleActs q = p.act := by
  unfold staleActs
  rw [if_neg h0, if_neg h1, if_neg h2, if_neg h8]

theorem ageExpired_running {q : Fin 24} {p : Part} (h : (p.sen.image[q]).age.isSome = true) :
    p.ageExpired q = ({ p with sen := p.sen.setQuantity q (p.sen.image[q]).goStale } : Part).wentStale q := if_pos h

theorem ageExpired_stopped {q : Fin 24} {p : Part} (h : (p.sen.image[q]).age = none) : p.ageExpired q = p :=
  if_neg (by rw [h]; decide)

end Part

/-- Settles O11. -/
theorem ageExpiryMakesStale : Obligations.AgeExpiryMakesStale := by
  refine ⟨fun s q hl h11 => ⟨fun hage => ?_, fun hage => ?_⟩, fun p q => ?_, fun c x a => ⟨fun h => ?_, fun hs hf => ?_⟩,
    fun c a => ⟨fun h => ?_, fun h => ?_⟩⟩
  · set stale : Part := { s.part with sen := s.part.sen.setQuantity q (s.part.sen.image[q]).goStale } with hstale
    have run : exec (.ageExpiry q) s = .next (s.settled (stale.wentStale q)) := by
      refine (State.run_live hl (Part.ageExpired q)).trans ?_
      rw [Part.ageExpired_running hage]
    rw [Part.wentStale_eq] at run
    have sense := ((Part.told_sense q stale).trans (.withAct _ ((stale.told q).staleActs q))).trans (.settle _)
    refine ⟨_, _, run, rfl, rfl, (Part.told_sense q stale).tab, rfl, ?_, ?_, ?_, ?_,
      fun h0 h1 h2 h8 => Part.staleActs_of_ne h0 h1 h2 h8, sense.tab,
      (sense.image q h11).trans (Sensed.setQuantity_self _ q _),
      fun k hk hk11 => (sense.image k hk11).trans (Sensed.setQuantity_of_ne _ hk _), sense.meters, sense.filters,
      sense.mode⟩
    all_goals
      intro h
      subst h
      rfl
  · refine (State.run_live hl (Part.ageExpired q)).trans ?_
    rw [Part.ageExpired_stopped hage]
  · rw [Part.wentStale_eq]
    refine ⟨?_, ?_, ?_, ?_, fun h0 h1 h2 h8 => ?_⟩
    case refine_5 =>
      rw [Part.staleActs_of_ne h0 h1 h2 h8]
      rfl
    all_goals
      intro h
      subst h
      rfl
  · exact if_neg (by rw [AxisState.needsPosition_eq_false h]; decide)
  · exact if_pos (AxisState.needsPosition_eq_true hs hf)
  · exact Acting.guardMast_of_not fun hb => h ⟨hb.1, (Ctx.guardBlocks_iff c).1 hb.2⟩
  · exact ⟨a.mastHeld c, Acting.guardMast_of ⟨h.1, (Ctx.guardBlocks_iff c).2 h.2⟩, Acting.mastHeld_axes c a,
      Acting.mastHeld_eq c a, Acting.mastHeld_search c a, Acting.mastHeld_seq c a,
      fun hm hd => Acting.mastHeld_sends hm hd a⟩

end Sys2Proof.Machine
end

section
/-! PROOFS. O50: STATUS requests (R146, R148, R172, R184, R185). -/

namespace Sys2Proof.Machine

/-! ### The words of a STATUS -/

theorem Ctx.posWord_eq (c : Ctx) (x : Axis) : c.posWord x =
    if (c.sen.image[positionOf x]).state = .fresh then (c.sen.image[positionOf x]).value else -32768 := by
  unfold Ctx.posWord Ctx.posFresh Sensed.fresh
  simp only [decide_eq_true_eq]
  rfl

theorem modeCode_eq (m : Mode) : modeCode m = if m = .operating then 1 else 0 := by cases m <;> rfl

theorem bankCode_double (bank : Bank) : 2 * bankCode bank = if bank = .b then 2 else 0 := by cases bank <;> rfl

theorem boolCode_fourfold (b : Bool) : 4 * boolCode b = if b = true then 4 else 0 := by cases b <;> rfl

/-! ### A request -/

theorem Output.any_isStatus_iff (es : List CEntry) :
    es.any CEntry.isStatus = true ↔ ∃ e ∈ es, e.body = .status := by
  simp only [List.any_eq_true, CEntry.isStatus, decide_eq_true_eq]

theorem Output.requestStatus_waiting {o : Output} (h : ∃ e ∈ o.routine, e.body = .status) (t : Tables)
    (v : List Word) : o.requestStatus t v = o := if_pos ((Output.any_isStatus_iff _).2 h)

theorem Output.requestStatus_placed {o : Output} (h : ¬∃ e ∈ o.routine, e.body = .status) (t : Tables)
    (v : List Word) : o.requestStatus t v = o.placeC t v false ⟨.own, .status⟩ :=
  if_neg fun hs => h ((Output.any_isStatus_iff _).1 hs)

theorem Acting.requestStatus_eq (c : Ctx) (a : Acting) :
    a.requestStatus c = { a with out := a.out.requestStatus c.tab (statusWords c a) } := rfl

theorem Acting.statusExpired_running {c : Ctx} {a : Acting} (h : a.out.statusTimer.isSome = true) :
    a.statusExpired c = ({ a with out := { a.out with
      statusTimer := some (c.tab.report.period * 10000) } } : Acting).requestStatus c :=
  if_neg (by rw [Option.isNone_iff_eq_none]; exact Option.isSome_iff_ne_none.1 h)

/-- Settles O50. -/
theorem statusRequestPlacesOne : Obligations.StatusRequestPlacesOne := by
  refine ⟨fun s h hc => State.run_taken hc (by decide) (by decide), fun s hl ht => ?_, fun c a => ?_,
    fun c a => ⟨fun hw => ?_, fun hw => ?_, fun hw hb hn => ?_, fun hw hi hu hr => ?_⟩⟩
  · refine (State.run_live hl _).trans ?_
    exact congrArg (fun a => Host.Outcome.next (s.settled { s.part with act := a })) (Acting.statusExpired_running ht)
  · unfold statusWords
    rw [modeCode_eq, bankCode_double, boolCode_fourfold, Ctx.posWord_eq, Ctx.posWord_eq, Ctx.posWord_eq]
    rfl
  · rw [Acting.requestStatus_eq, Output.requestStatus_waiting hw]
  · rw [Acting.requestStatus_eq, Output.requestStatus_placed hw]
  · rw [Acting.requestStatus_eq, Output.requestStatus_placed hw, Output.placeC_busy hb hn]
    rfl
  · rw [Acting.requestStatus_eq, Output.requestStatus_placed hw, Output.placeC_idle hi hu hr]
    rfl

end Sys2Proof.Machine
end

section
/-! SUPPORT. One field of a table entry, read from its word and written back (R147, R150, R182): a reader gives a
value exactly for the value's own word, where the value lies in the reader's range. -/

namespace Sys2Proof.Machine

/-! ### Numbers -/

theorem toInt_intWord {v : Int} (h : -32768 ≤ v) (h' : v ≤ 32767) : (intWord v).toInt = v := by
  unfold intWord Word.ofInt
  exact BitVec.toInt_ofInt_eq_self (by decide) h (by omega)

theorem intWord_toInt (w : Word) : intWord w.toInt = w := BitVec.ofInt_toInt

theorem word_range (w : Word) : -32768 ≤ w.toInt ∧ w.toInt ≤ 32767 := by
  have lower := w.le_toInt
  have upper := w.toInt_lt
  norm_num at lower upper
  omega

/-- A word is the number it stands for. -/
theorem toInt_eq_iff {w : Word} {v : Int} : w.toInt = v ↔ w = intWord v ∧ -32768 ≤ v ∧ v ≤ 32767 := by
  constructor
  · rintro rfl
    exact ⟨(intWord_toInt w).symm, word_range w⟩
  · rintro ⟨rfl, h, h'⟩
    exact toInt_intWord h h'

theorem natWord_eq_intWord (n : Nat) : natWord n = intWord n := by
  unfold natWord intWord Word.ofInt
  exact (BitVec.ofInt_natCast 16 n).symm

theorem numIn_eq_some {lo hi : Int} {w : Word} {v : Int} :
    numIn lo hi w = some v ↔ w = intWord v ∧ (lo ≤ v ∧ v ≤ hi) ∧ -32768 ≤ v ∧ v ≤ 32767 := by
  unfold numIn
  rw [Option.ite_none_right_eq_some, Option.some.injEq, toInt_eq_iff]
  constructor
  · rintro ⟨hr, rfl, hv, hv'⟩
    rw [toInt_intWord hv hv'] at hr
    exact ⟨rfl, hr, hv, hv'⟩
  · rintro ⟨rfl, hr, hv, hv'⟩
    rw [toInt_intWord hv hv']
    exact ⟨hr, rfl, hv, hv'⟩

/-- A number whose range is one of words. -/
theorem numIn_eq_some_of {lo hi : Int} (hlo : -32768 ≤ lo) (hhi : hi ≤ 32767) {w : Word} {v : Int} :
    numIn lo hi w = some v ↔ w = intWord v ∧ lo ≤ v ∧ v ≤ hi := by
  rw [numIn_eq_some]
  exact ⟨fun ⟨hw, hr, _⟩ => ⟨hw, hr⟩, fun ⟨hw, hr⟩ => ⟨hw, hr, by omega⟩⟩

theorem natIn_eq_some {lo hi : Nat} (hhi : hi ≤ 32767) {w : Word} {n : Nat} :
    natIn lo hi w = some n ↔ w = natWord n ∧ lo ≤ n ∧ n ≤ hi := by
  unfold natIn
  simp only [Option.map_eq_some_iff, numIn_eq_some_of (lo := lo) (hi := hi) (by omega) (by omega),
    natWord_eq_intWord]
  constructor
  · rintro ⟨v, ⟨rfl, h, h'⟩, rfl⟩
    rw [Int.toNat_of_nonneg (by omega)]
    exact ⟨rfl, by omega, by omega⟩
  · rintro ⟨rfl, h, h'⟩
    exact ⟨n, ⟨rfl, by omega, by omega⟩, rfl⟩

theorem finIn_eq_some {n : Nat} (hn : n ≤ 32767) {w : Word} {q : Fin (n + 1)} :
    finIn n w = some q ↔ w = natWord q.val := by
  unfold finIn
  simp only [Option.map_eq_some_iff, natIn_eq_some hn]
  constructor
  · rintro ⟨k, ⟨rfl, _, hk⟩, rfl⟩
    rw [Fin.val_ofNat, Nat.mod_eq_of_lt (by omega)]
  · rintro rfl
    exact ⟨q.val, ⟨rfl, by omega, by omega⟩, Fin.ofNat_val_eq_self q⟩

/-- R150: a set as a mask. -/
theorem setIn_eq_some {n : Nat} (hn : n ≤ 15) {w : Word} {m : BitVec n} :
    setIn n w = some m ↔ w = m.setWidth 16 := by
  have top : 2 ^ n ≤ 2 ^ 15 := Nat.pow_le_pow_right (by decide) hn
  have word : ∀ m : BitVec n, natWord m.toNat = m.setWidth 16 := fun m => BitVec.ofNat_toNat 16 m
  unfold setIn
  simp only [Option.map_eq_some_iff, natIn_eq_some (lo := 0) (hi := 2 ^ n - 1) (by omega)]
  constructor
  · rintro ⟨k, ⟨rfl, _, hk⟩, rfl⟩
    rw [← word, BitVec.toNat_ofNat, Nat.mod_eq_of_lt (by have := Nat.two_pow_pos n; omega)]
  · rintro rfl
    exact ⟨m.toNat, ⟨(word m).symm, by omega, by have := m.isLt; omega⟩,
      (BitVec.ofNat_toNat n m).trans (BitVec.setWidth_eq m)⟩

/-! ### Flags and codes -/

theorem flagWord_eq (b : Bool) : flagWord b = if b then 1 else 0 := by cases b <;> rfl

theorem yesNo_eq_some {w : Word} {b : Bool} : yesNo w = some b ↔ w = flagWord b := by
  constructor
  · unfold yesNo
    split
    next h => rintro ⟨⟩; exact (toInt_eq_iff.1 h).1
    next h => rintro ⟨⟩; exact (toInt_eq_iff.1 h).1
    next => rintro ⟨⟩
  · rintro rfl
    cases b <;> rfl

/-- R150: `of` reads the codes that `code` writes, each of which is a word. -/
structure Codes {α : Type} (of : Int → Option α) (code : α → Int) : Prop where
  read : ∀ {v : Int} {k : α}, of v = some k → v = code k
  written : ∀ k : α, of (code k) = some k
  small : ∀ k : α, 0 ≤ code k ∧ code k ≤ 9

namespace Codes

variable {α : Type} {of : Int → Option α} {code : α → Int}

theorem of_eq_some (h : Codes of code) {v : Int} {k : α} : of v = some k ↔ v = code k :=
  ⟨h.read, fun e => e ▸ h.written k⟩

theorem of_word (h : Codes of code) {w : Word} {k : α} : of w.toInt = some k ↔ w = intWord (code k) := by
  have := h.small k
  rw [h.of_eq_some, toInt_eq_iff]
  exact ⟨And.left, fun hw => ⟨hw, by omega, by omega⟩⟩

end Codes

theorem port_codes : Codes portOf portCode where
  read h := by unfold portOf at h; split at h <;> cases h <;> rfl
  written k := by cases k <;> rfl
  small k := by cases k <;> decide

theorem axis_codes : Codes axisOf axisCode where
  read h := by unfold axisOf at h; split at h <;> cases h <;> rfl
  written k := by cases k <;> rfl
  small k := by cases k <;> decide

theorem portState_codes : Codes portStateOf portStateCode where
  read h := by unfold portStateOf at h; split at h <;> cases h <;> rfl
  written k := by cases k <;> rfl
  small k := by cases k <;> decide

theorem role_codes : Codes roleOf roleCode where
  read h := by unfold roleOf at h; split at h <;> cases h <;> rfl
  written k := by cases k <;> rfl
  small k := by cases k <;> decide

theorem condition_codes : Codes conditionOf conditionCode where
  read h := by unfold conditionOf at h; split at h <;> cases h <;> rfl
  written k := by cases k <;> rfl
  small k := by cases k <;> decide

theorem join_codes : Codes joinOf joinCode where
  read h := by unfold joinOf at h; split at h <;> cases h <;> rfl
  written k := by cases k <;> rfl
  small k := by cases k <;> decide

theorem action_codes : Codes actionOf actionCode where
  read h := by unfold actionOf at h; split at h <;> cases h <;> rfl
  written k := by cases k <;> rfl
  small k := by cases k <;> decide

theorem lineFunction_codes : Codes lineFunctionOf lineFunctionCode where
  read h := by unfold lineFunctionOf at h; split at h <;> cases h <;> rfl
  written k := by cases k <;> rfl
  small k := by cases k <;> decide

/-! ### Values that may be absent -/

theorem toInt_eq_absent {w : Word} : w.toInt = absentMarker ↔ w = intWord absentMarker :=
  toInt_eq_iff.trans ⟨And.left, fun h => ⟨h, by decide, by decide⟩⟩

theorem numOrAbsent_eq_some {lo hi : Int} (hlo : -32768 < lo) (hhi : hi ≤ 32767) {w : Word} {o : Option Int} :
    numOrAbsent lo hi w = some o ↔ w = intWord (absentOr o) ∧ ∀ v, o = some v → lo ≤ v ∧ v ≤ hi := by
  have read : ∀ {v : Int}, numIn lo hi w = some v ↔ w = intWord v ∧ lo ≤ v ∧ v ≤ hi :=
    numIn_eq_some_of (by omega) hhi
  unfold numOrAbsent
  cases o
  case none =>
    by_cases h : w.toInt = absentMarker
    · simpa [h, absentOr] using toInt_eq_absent.1 h
    · simpa [h, absentOr] using fun hw => h (toInt_eq_absent.2 hw)
  case some v =>
    by_cases h : w.toInt = absentMarker
    · have hw := toInt_eq_absent.1 h
      simp only [h, if_true, absentOr, Option.getD_some]
      refine ⟨fun e => (by cases e), fun ⟨e, hv⟩ => ?_⟩
      have hv := hv v rfl
      have := toInt_intWord (v := v) (by omega) (by omega)
      rw [← e, h] at this
      simp only [absentMarker] at this
      omega
    · simp [h, absentOr, read]

/-- The word of an angle above 32767 is its pattern without a sign (log 40). -/
theorem intWord_natCast_toNat {n : Nat} (h : n < 65536) : (intWord n).toNat = n := by
  rw [← natWord_eq_intWord]
  exact Nat.mod_eq_of_lt h

theorem intWord_toNat (w : Word) : intWord w.toNat = w := by
  rw [← natWord_eq_intWord]
  exact (BitVec.ofNat_toNat 16 w).trans (BitVec.setWidth_eq w)

theorem angleOrAbsent_eq_some {hi : Nat} (hhi : hi < 65536) {w : Word} {o : Option Int} :
    angleOrAbsent hi w = some o ↔
      w = intWord (absentOr o) ∧ ∀ v, o = some v → 0 ≤ v ∧ v ≤ hi ∧ v ≠ 32768 := by
  have marker : intWord absentMarker = intWord ((32768 : Nat) : Int) := by decide
  unfold angleOrAbsent
  cases o
  case none =>
    by_cases h : w.toInt = absentMarker
    · simpa [h, absentOr] using toInt_eq_absent.1 h
    · simpa [h, absentOr] using fun hw => h (toInt_eq_absent.2 hw)
  case some v =>
    by_cases h : w.toInt = absentMarker
    · have hw := (toInt_eq_absent.1 h).trans marker
      simp only [h, if_true, absentOr, Option.getD_some]
      refine ⟨fun e => (by cases e), fun ⟨e, hv⟩ => ?_⟩
      obtain ⟨h0, h1, h2⟩ := hv v rfl
      lift v to Nat using h0
      have := congrArg BitVec.toNat (e.symm.trans hw)
      rw [intWord_natCast_toNat (by omega), intWord_natCast_toNat (by decide)] at this
      omega
    · rw [if_neg h, Option.ite_none_right_eq_some]
      simp only [Option.some.injEq, absentOr, Option.getD_some]
      constructor
      · rintro ⟨hw, rfl⟩
        refine ⟨(intWord_toNat w).symm, fun v e => ?_⟩
        cases e
        refine ⟨by omega, by omega, fun e => h (toInt_eq_absent.2 ?_)⟩
        rw [marker]
        exact (intWord_toNat w).symm.trans (congrArg intWord e)
      · rintro ⟨rfl, hv⟩
        obtain ⟨h0, h1, h2⟩ := hv v rfl
        lift v to Nat using h0
        rw [intWord_natCast_toNat (by omega)]
        exact ⟨by omega, rfl⟩

end Sys2Proof.Machine
end

section
/-! PROOFS. O55: the entries of the tables, read from their words and written back (R182, R183). -/

namespace Sys2Proof.Machine

/-- The range of the words read as signed numbers (R147). -/
abbrev InWord (v : Int) : Prop := -32768 ≤ v ∧ v ≤ 32767

theorem readNode_eq_some {ws : List Word} {r : NodeEntry} : readNode ws = some r ↔
    ws = r.words ∧ 1 ≤ r.rate ∧ r.rate ≤ 1000 ∧ 1 ≤ r.burst ∧ r.burst ≤ 64 ∧ r.cap ≤ 7 := by
  unfold readNode
  split
  · simp only [Option.bind_eq_bind, Option.bind_eq_some_iff, Option.pure_def, Option.some.injEq, yesNo_eq_some,
      port_codes.of_word, role_codes.of_word, setIn_eq_some, natIn_eq_some, Nat.reduceLeDiff]
    constructor
    · rintro ⟨_, rfl, _, rfl, _, rfl, _, rfl, _, rfl, _, ⟨rfl, hrate⟩, _, ⟨rfl, hburst⟩, _, ⟨rfl, hcap⟩, rfl⟩
      exact ⟨rfl, hrate.1, hrate.2, hburst.1, hburst.2, hcap.2⟩
    · rintro ⟨hw, hrate, hrate', hburst, hburst', hcap⟩
      cases hw
      exact ⟨_, rfl, _, rfl, _, rfl, _, rfl, _, rfl, _, ⟨rfl, hrate, hrate'⟩, _, ⟨rfl, hburst, hburst'⟩, _,
        ⟨rfl, Nat.zero_le _, hcap⟩, rfl⟩
  next other => exact ⟨fun h => (by cases h), fun h => absurd h.1 (other _ _ _ _ _ _ _ _)⟩

theorem readQuantity_eq_some {ws : List Word} {r : QuantityEntry} : readQuantity ws = some r ↔
    ws = r.words ∧ -32767 ≤ r.lo ∧ r.lo ≤ r.hi ∧ r.hi ≤ 32767 ∧ 1 ≤ r.maxAge ∧ r.maxAge ≤ 255 := by
  unfold readQuantity
  split
  · simp only [Option.bind_eq_bind, Option.bind_eq_some_iff, Option.pure_def, Option.some.injEq, numIn_eq_some_of,
      natIn_eq_some, finIn_eq_some, Option.ite_none_right_eq_some, Nat.reduceLeDiff, Int.reduceNeg, Int.reduceLE]
    constructor
    · rintro ⟨_, ⟨rfl, hlo⟩, _, ⟨rfl, hhi⟩, _, ⟨rfl, hage⟩, _, rfl, horder, rfl⟩
      exact ⟨rfl, hlo.1, horder, hhi.2, hage.1, hage.2⟩
    · rintro ⟨hw, hlo, horder, hhi, hage, hage'⟩
      cases hw
      exact ⟨_, ⟨rfl, hlo, by omega⟩, _, ⟨rfl, by omega, hhi⟩, _, ⟨rfl, hage, hage'⟩, _, rfl, horder, rfl⟩
  next other => exact ⟨fun h => (by cases h), fun h => absurd h.1 (other _ _ _ _)⟩

theorem readRule_eq_some {ws : List Word} {r : Rule} : readRule ws = some r ↔
    ws = r.words ∧ InWord r.threshold ∧ 1 ≤ r.assertP ∧ r.assertP ≤ 15 ∧ 1 ≤ r.releaseP ∧ r.releaseP ≤ 15 := by
  unfold readRule
  split
  · simp only [Option.bind_eq_bind, Option.bind_eq_some_iff, Option.pure_def, Option.some.injEq, yesNo_eq_some,
      finIn_eq_some, condition_codes.of_word, join_codes.of_word, action_codes.of_word, natIn_eq_some, setIn_eq_some,
      Nat.reduceLeDiff]
    constructor
    · rintro ⟨_, rfl, _, rfl, _, rfl, _, rfl, _, ⟨rfl, hassert⟩, _, ⟨rfl, hrelease⟩, _, rfl, _, rfl, _, rfl, rfl⟩
      refine ⟨?_, word_range _, hassert.1, hassert.2, hrelease.1, hrelease.2⟩
      simp only [Rule.words, intWord_toInt]
    · rintro ⟨hw, hword, hassert, hassert', hrelease, hrelease'⟩
      cases hw
      refine ⟨_, rfl, _, rfl, _, rfl, _, rfl, _, ⟨rfl, hassert, hassert'⟩, _, ⟨rfl, hrelease, hrelease'⟩, _, rfl, _, rfl,
        _, rfl, ?_⟩
      rw [toInt_intWord hword.1 hword.2]
  next other => exact ⟨fun h => (by cases h), fun h => absurd h.1 (other _ _ _ _ _ _ _ _ _ _)⟩

theorem readMotion_eq_some {ws : List Word} {r : MotionRecord} : readMotion ws = some r ↔
    ws = r.words ∧ InWord r.softMin ∧ InWord r.softMax ∧ r.softMin < r.softMax ∧ 1 ≤ r.vmax ∧ r.vmax ≤ 1000 ∧ 1 ≤ r.accel
      ∧ r.accel ≤ 1000 ∧ 1 ≤ r.gain ∧ r.gain ≤ 255 ∧ r.deadband ≤ 500 ∧ 1 ≤ r.settleCount ∧ r.settleCount ≤ 15
      ∧ r.period ≤ 255 := by
  unfold readMotion
  split
  · simp only [Option.bind_eq_bind, Option.bind_eq_some_iff, Option.pure_def, Option.some.injEq, natIn_eq_some,
      Option.ite_none_right_eq_some, Nat.reduceLeDiff]
    constructor
    · rintro ⟨_, ⟨rfl, hvmax⟩, _, ⟨rfl, haccel⟩, _, ⟨rfl, hgain⟩, _, ⟨rfl, hband⟩, _, ⟨rfl, hcount⟩, _, ⟨rfl, hperiod⟩, horder,
        rfl⟩
      refine ⟨?_, word_range _, word_range _, horder, hvmax.1, hvmax.2, haccel.1, haccel.2, hgain.1, hgain.2, hband.2,
        hcount.1, hcount.2, hperiod.2⟩
      simp only [MotionRecord.words, intWord_toInt]
    · rintro ⟨hw, hmin, hmax, horder, hvmax, hvmax', haccel, haccel', hgain, hgain', hband, hcount, hcount', hperiod⟩
      cases hw
      refine ⟨_, ⟨rfl, hvmax, hvmax'⟩, _, ⟨rfl, haccel, haccel'⟩, _, ⟨rfl, hgain, hgain'⟩, _,
        ⟨rfl, Nat.zero_le _, hband⟩, _, ⟨rfl, hcount, hcount'⟩, _, ⟨rfl, Nat.zero_le _, hperiod⟩, ?_⟩
      rw [toInt_intWord hmin.1 hmin.2, toInt_intWord hmax.1 hmax.2]
      exact ⟨horder, rfl⟩
  next other => exact ⟨fun h => (by cases h), fun h => absurd h.1 (other _ _ _ _ _ _ _ _)⟩

theorem readGuard_eq_some {ws : List Word} {r : GuardRecord} : readGuard ws = some r ↔
    ws = r.words ∧ r.drive.val ≤ 30 ∧ 1 ≤ r.ageLimit ∧ r.ageLimit ≤ 255 ∧ 1 ≤ r.stallDemand ∧ r.stallDemand ≤ 1000
      ∧ 1 ≤ r.stallTime ∧ r.stallTime ≤ 255 ∧ 1 ≤ r.stallDist ∧ r.stallDist ≤ 1000 ∧ InWord r.stowPos
      ∧ r.stowTol ≤ 2000 := by
  unfold readGuard
  split
  · simp only [Option.bind_eq_bind, Option.bind_eq_some_iff, Option.pure_def, Option.some.injEq, natIn_eq_some,
      Nat.reduceLeDiff]
    constructor
    · rintro ⟨n, ⟨rfl, hdrive⟩, _, ⟨rfl, hage⟩, _, ⟨rfl, hdemand⟩, _, ⟨rfl, htime⟩, _, ⟨rfl, hdist⟩, _, ⟨rfl, htol⟩, rfl⟩
      have hn : (Fin.ofNat 32 n).val = n := Nat.mod_eq_of_lt (by omega)
      refine ⟨?_, hn.le.trans hdrive.2, hage.1, hage.2, hdemand.1, hdemand.2, htime.1, htime.2, hdist.1, hdist.2, word_range _,
        htol.2⟩
      simp only [GuardRecord.words, intWord_toInt, hn]
    · rintro ⟨hw, hdrive, hage, hage', hdemand, hdemand', htime, htime', hdist, hdist', hpos, htol⟩
      cases hw
      refine ⟨_, ⟨rfl, Nat.zero_le _, hdrive⟩, _, ⟨rfl, hage, hage'⟩, _, ⟨rfl, hdemand, hdemand'⟩, _,
        ⟨rfl, htime, htime'⟩, _, ⟨rfl, hdist, hdist'⟩, _, ⟨rfl, Nat.zero_le _, htol⟩, ?_⟩
      rw [toInt_intWord hpos.1 hpos.2, Fin.ofNat_val_eq_self]
  next other => exact ⟨fun h => (by cases h), fun h => absurd h.1 (other _ _ _ _ _ _ _)⟩

/-- R94: a preset that is present moves something, and a search-after has a bearing and an elevation. -/
theorem PresetRecord.joined_iff (r : PresetRecord) : r.joined = true ↔
    (r.present = true → r.height.isSome = true ∨ r.bearing.isSome = true ∨ r.elevation.isSome = true)
    ∧ (r.searchAfter = true → r.bearing.isSome = true ∧ r.elevation.isSome = true) := by
  unfold PresetRecord.joined
  cases r.present <;> cases r.searchAfter <;> simp [or_assoc]

theorem readPreset_eq_some {ws : List Word} {r : PresetRecord} : readPreset ws = some r ↔
    ws = r.words ∧ (∀ v, r.height = some v → 0 ≤ v ∧ v ≤ 32767)
      ∧ (∀ v, r.bearing = some v → 0 ≤ v ∧ v ≤ 35999 ∧ v ≠ 32768) ∧ (∀ v, r.elevation = some v → -9000 ≤ v ∧ v ≤ 9000)
      ∧ (r.present = true → r.height.isSome = true ∨ r.bearing.isSome = true ∨ r.elevation.isSome = true)
      ∧ (r.searchAfter = true → r.bearing.isSome = true ∧ r.elevation.isSome = true) := by
  unfold readPreset
  split
  · simp only [Option.bind_eq_bind, Option.bind_eq_some_iff, Option.pure_def, Option.some.injEq, yesNo_eq_some,
      numOrAbsent_eq_some, angleOrAbsent_eq_some, Option.ite_none_right_eq_some, PresetRecord.joined_iff,
      Nat.reduceLT, Int.reduceNeg, Int.reduceLT, Int.reduceLE]
    constructor
    · rintro ⟨_, rfl, _, rfl, _, ⟨rfl, hheight⟩, _, ⟨rfl, hbearing⟩, _, ⟨rfl, helevation⟩, hjoined, rfl⟩
      exact ⟨rfl, hheight, hbearing, helevation, hjoined⟩
    · rintro ⟨hw, hheight, hbearing, helevation, hjoined⟩
      cases hw
      exact ⟨_, rfl, _, rfl, _, ⟨rfl, hheight⟩, _, ⟨rfl, hbearing⟩, _, ⟨rfl, helevation⟩, hjoined, rfl⟩
  next other => exact ⟨fun h => (by cases h), fun h => absurd h.1 (other _ _ _ _ _)⟩

theorem readSearch_eq_some {ws : List Word} {r : SearchRecord} : readSearch ws = some r ↔
    ws = r.words ∧ 5 ≤ r.s0 ∧ r.s0 ≤ 500 ∧ 1 ≤ r.smin ∧ r.smin ≤ 50 ∧ r.smin ≤ r.s0 ∧ 1 ≤ r.samples ∧ r.samples ≤ 16
      ∧ 0 ≤ r.improve ∧ r.improve ≤ 100 ∧ 50 ≤ r.window ∧ r.window ≤ 3000 ∧ 0 ≤ r.floor ∧ r.floor ≤ 1000
      ∧ 1 ≤ r.repeakDrop ∧ r.repeakDrop ≤ 200 ∧ 1 ≤ r.maxProbes ∧ r.maxProbes ≤ 255 ∧ 1 ≤ r.suspendLimit
      ∧ r.suspendLimit ≤ 600 := by
  unfold readSearch
  split
  · simp only [Option.bind_eq_bind, Option.bind_eq_some_iff, Option.pure_def, Option.some.injEq, natIn_eq_some,
      numIn_eq_some_of, Option.ite_none_right_eq_some, Nat.reduceLeDiff, Int.reduceNeg, Int.reduceLE]
    constructor
    · rintro ⟨_, ⟨rfl, hs⟩, _, ⟨rfl, hmin⟩, _, ⟨rfl, hn⟩, _, ⟨rfl, himp⟩, _, ⟨rfl, hwin⟩, _, ⟨rfl, hfloor⟩, _, ⟨rfl, hdrop⟩, _,
        ⟨rfl, hmax⟩, _, ⟨rfl, hlim⟩, horder, rfl⟩
      exact ⟨rfl, hs.1, hs.2, hmin.1, hmin.2, horder, hn.1, hn.2, himp.1, himp.2, hwin.1, hwin.2, hfloor.1, hfloor.2,
        hdrop.1, hdrop.2, hmax.1, hmax.2, hlim.1, hlim.2⟩
    · rintro ⟨hw, hs, hs', hmin, hmin', horder, hn, hn', himp, himp', hwin, hwin', hfloor, hfloor', hdrop, hdrop', hmax, hmax',
        hlim, hlim'⟩
      cases hw
      exact ⟨_, ⟨rfl, hs, hs'⟩, _, ⟨rfl, hmin, hmin'⟩, _, ⟨rfl, hn, hn'⟩, _, ⟨rfl, himp, himp'⟩, _, ⟨rfl, hwin, hwin'⟩, _,
        ⟨rfl, hfloor, hfloor'⟩, _, ⟨rfl, hdrop, hdrop'⟩, _, ⟨rfl, hmax, hmax'⟩, _, ⟨rfl, hlim, hlim'⟩, horder, rfl⟩
  next other => exact ⟨fun h => (by cases h), fun h => absurd h.1 (other _ _ _ _ _ _ _ _ _)⟩

theorem readPointing_eq_some {ws : List Word} {r : PointingRecord} : readPointing ws = some r ↔
    ws = r.words ∧ -3000 ≤ r.declination ∧ r.declination ≤ 3000 ∧ 0 ≤ r.clearHeight ∧ r.clearHeight ≤ r.safeHeight
      ∧ r.safeHeight ≤ 15000 ∧ 5 ≤ r.jogTimeout ∧ r.jogTimeout ≤ 200 ∧ 5 ≤ r.phaseTimeout ∧ r.phaseTimeout ≤ 600 := by
  unfold readPointing
  split
  · simp only [Option.bind_eq_bind, Option.bind_eq_some_iff, Option.pure_def, Option.some.injEq, numIn_eq_some,
      natIn_eq_some, Nat.reduceLeDiff]
    constructor
    · rintro ⟨_, ⟨rfl, hdecl, _⟩, _, ⟨rfl, hclear, _⟩, _, ⟨rfl, hsafe, _⟩, _, ⟨rfl, hjog⟩, _, ⟨rfl, hphase⟩, rfl⟩
      exact ⟨rfl, hdecl.1, hdecl.2, hclear.1, hsafe.1, hsafe.2, hjog.1, hjog.2, hphase.1, hphase.2⟩
    · rintro ⟨hw, hdecl, hdecl', hclear, hsafe, hsafe', hjog, hjog', hphase, hphase'⟩
      cases hw
      exact ⟨_, ⟨rfl, ⟨hdecl, hdecl'⟩, by omega, by omega⟩, _, ⟨rfl, ⟨hclear, by omega⟩, by omega, by omega⟩, _,
        ⟨rfl, ⟨hsafe, hsafe'⟩, by omega, by omega⟩, _, ⟨rfl, hjog, hjog'⟩, _, ⟨rfl, hphase, hphase'⟩, rfl⟩
  next other => exact ⟨fun h => (by cases h), fun h => absurd h.1 (other _ _ _ _ _)⟩

/-- R20: an OUTPUT line is driven to 0 or 1. -/
theorem LineRecord.driveable_iff (r : LineRecord) : r.driveable = true ↔ (r.function = .output → r.value ≤ 1) := by
  unfold LineRecord.driveable
  by_cases h : r.function = .output <;> simp [h]

theorem readLine_eq_some {ws : List Word} {r : LineRecord} : readLine ws = some r ↔
    ws = r.words ∧ r.function ≠ .estop ∧ r.value ≤ 47 ∧ (r.function = .output → r.value ≤ 1) := by
  unfold readLine
  split
  · simp only [Option.bind_eq_bind, Option.bind_eq_some_iff, Option.pure_def, Option.some.injEq,
      lineFunction_codes.of_word, yesNo_eq_some, finIn_eq_some, natIn_eq_some, Option.ite_none_right_eq_some,
      LineRecord.driveable_iff, Nat.reduceLeDiff]
    constructor
    · rintro ⟨_, rfl, _, rfl, _, rfl, _, ⟨rfl, hvalue⟩, ⟨hfun, hdrive⟩, rfl⟩
      exact ⟨rfl, hfun, hvalue.2, hdrive⟩
    · rintro ⟨hw, hfun, hvalue, hdrive⟩
      cases hw
      exact ⟨_, rfl, _, rfl, _, rfl, _, ⟨rfl, Nat.zero_le _, hvalue⟩, ⟨hfun, hdrive⟩, rfl⟩
  next other => exact ⟨fun h => (by cases h), fun h => absurd h.1 (other _ _ _ _)⟩

theorem readPort_eq_some {ws : List Word} {r : PortRecord} : readPort ws = some r ↔ ws = r.words := by
  unfold readPort
  split
  · simp only [Option.bind_eq_bind, Option.bind_eq_some_iff, Option.pure_def, Option.some.injEq,
      portState_codes.of_word, setIn_eq_some, Nat.reduceLeDiff]
    constructor
    · rintro ⟨_, rfl, _, rfl, rfl⟩
      rfl
    · intro hw
      cases hw
      exact ⟨_, rfl, _, rfl, rfl⟩
  next other => exact ⟨fun h => (by cases h), fun h => absurd h (other _ _)⟩

theorem readReport_eq_some {ws : List Word} {r : ReportRecord} : readReport ws = some r ↔
    ws = r.words ∧ 10 ≤ r.period ∧ r.period ≤ 6000 := by
  unfold readReport
  split
  · simp only [Option.bind_eq_bind, Option.bind_eq_some_iff, Option.pure_def, Option.some.injEq, natIn_eq_some,
      setIn_eq_some, Nat.reduceLeDiff]
    constructor
    · rintro ⟨_, ⟨rfl, hperiod⟩, _, rfl, rfl⟩
      exact ⟨rfl, hperiod⟩
    · rintro ⟨hw, hperiod⟩
      cases hw
      exact ⟨_, ⟨rfl, hperiod⟩, _, rfl, rfl⟩
  next other => exact ⟨fun h => (by cases h), fun h => absurd h.1 (other _ _)⟩

/-! ### The words of an entry -/

/-- Settles O55. -/
theorem entryWordsReadBack : Obligations.EntryWordsReadBack := by
  refine ⟨fun ws => ⟨fun r h => (readNode_eq_some.1 h).1.symm, fun r h => (readQuantity_eq_some.1 h).1.symm,
      fun r h => (readRule_eq_some.1 h).1.symm, fun r h => (readMotion_eq_some.1 h).1.symm,
      fun r h => (readGuard_eq_some.1 h).1.symm, fun r h => (readPreset_eq_some.1 h).1.symm,
      fun r h => (readSearch_eq_some.1 h).1.symm, fun r h => (readPointing_eq_some.1 h).1.symm,
      fun r h => (readLine_eq_some.1 h).1.symm, fun r h => (readPort_eq_some.1 h).symm,
      fun r h => (readReport_eq_some.1 h).1.symm⟩,
    fun ws => ⟨fun r => readNode_eq_some, fun r => readQuantity_eq_some, fun r => readRule_eq_some,
      fun r => readMotion_eq_some, fun r => readGuard_eq_some, fun r => readPreset_eq_some,
      fun r => readSearch_eq_some, fun r => readPointing_eq_some, fun r => readLine_eq_some,
      fun r => readPort_eq_some, fun r => readReport_eq_some⟩,
    fun r => ?_, fun r => rfl, fun r => ?_, fun r => rfl, fun r => rfl, fun r => ?_, fun r => rfl, fun r => rfl,
    fun r => ?_, fun r => rfl, fun r => rfl⟩
  · simp only [NodeEntry.words, flagWord_eq]
    rfl
  · simp only [Rule.words, flagWord_eq]
    rfl
  · simp only [PresetRecord.words, flagWord_eq]
    rfl
  · simp only [LineRecord.words, flagWord_eq]
    rfl

end Sys2Proof.Machine
end

section
/-! SUPPORT. The writes of the tables (R13, R20, R36, R62, R94, R97, R107, R151, R156, R184), each said once: what it
does at an index of its table, and that it refuses every other. -/

namespace Sys2Proof.Machine

/-! ### Indices and checks -/

theorem indexIn_iff {hi index : Int} : indexIn hi index = true ↔ 0 ≤ index ∧ index ≤ hi := by
  simp only [indexIn, Bool.and_eq_true, decide_eq_true_eq]

theorem indexIn_fin {n : Nat} (hi : Int) (k : Fin n) (h : (k.val : Int) ≤ hi) : indexIn hi k.val = true :=
  indexIn_iff.2 ⟨by omega, h⟩

theorem indexIn_outside {hi index : Int} (h : index < 0 ∨ hi < index) : indexIn hi index = false :=
  Bool.eq_false_iff.2 fun hin => by
    have := indexIn_iff.1 hin
    omega

theorem ofNat_toNat_val {n : Nat} [NeZero n] (k : Fin n) : Fin.ofNat n ((k.val : Int).toNat) = k :=
  Fin.ofNat_val_eq_self k

theorem axisOf_outside {v : Int} (h : v < 0 ∨ 2 < v) : axisOf v = none := by
  unfold axisOf
  split
  case h_4 => rfl
  all_goals omega

theorem portOf_outside {v : Int} (h : v < 0 ∨ 2 < v) : portOf v = none := by
  unfold portOf
  split
  case h_4 => rfl
  all_goals omega

theorem toInt_eq_zero {w : Word} : w.toInt = 0 ↔ w = 0 :=
  toInt_eq_iff.trans ⟨And.left, fun h => ⟨h, by decide, by decide⟩⟩

theorem mem_axisList (x : Axis) : x ∈ axisList := by cases x <;> decide

theorem Ctx.operating_iff {c : Ctx} : c.operating = true ↔ c.sen.mode = .operating := decide_eq_true_iff

/-- R156: the node table still holds a node at port C that may maintain. -/
theorem Tables.keepsMaint_iff {t : Tables} : t.keepsMaint = true ↔
    ∃ n, (t.node n).present = true ∧ (t.node n).port = .c ∧ (t.node n).role = .maint := by
  simp only [Tables.keepsMaint, List.any_eq_true, List.mem_finRange, true_and, Bool.and_eq_true, decide_eq_true_eq,
    and_assoc]

theorem axisOfQuantity_eq_some {q : Fin 24} {x : Axis} : axisOfQuantity q = some x ↔ positionOf x = q := by
  revert q
  cases x <;> decide

/-- R13: the range holds the soft limits of the axis whose position the quantity is. -/
theorem QuantityEntry.holdsLimits_iff {e : QuantityEntry} {t : Tables} {q : Fin 24} : e.holdsLimits t q = true ↔
    ∀ x, positionOf x = q → e.lo ≤ (t.motion.get x).softMin ∧ (t.motion.get x).softMin ≤ e.hi
      ∧ e.lo ≤ (t.motion.get x).softMax ∧ (t.motion.get x).softMax ≤ e.hi := by
  simp only [← axisOfQuantity_eq_some]
  unfold QuantityEntry.holdsLimits
  cases axisOfQuantity q
  case none => simp
  case some x =>
    simp only [Bool.and_eq_true, decide_eq_true_eq, Option.some.injEq, forall_eq']
    tauto

/-- R62: the drive node is the part's own number, or another axis's drive node. -/
theorem driveClashes_iff {t : Tables} {x : Axis} {g : GuardRecord} : driveClashes t x g = true ↔
    g.drive = t.own ∨ ∃ y, y ≠ x ∧ (t.guard.get y).drive = g.drive := by
  simp only [driveClashes, Bool.or_eq_true, List.any_eq_true, mem_axisList, true_and, Bool.and_eq_true,
    decide_eq_true_eq]

theorem AxisState.writable_iff {st : AxisState} : st.writable = true ↔ st = .stopped ∨ st = .fault := by
  simp only [AxisState.writable, Bool.or_eq_true, decide_eq_true_eq]

namespace Part

variable {p : Part} {fs : List Word} {index : Int}

/-! ### NODE, QUANTITY -/

theorem writeNode_badIndex (h : (index < 0 ∨ 30 < index) ∨ index = p.tab.own.val) :
    p.writeNode index fs = (p, .badIndex) := by
  unfold writeNode
  refine if_pos ?_
  rcases h with h | rfl
  · rw [indexIn_outside h]
    rfl
  · rw [ofNat_toNat_val]
    simp

theorem writeNode_at {k : Node} (h30 : k.val ≤ 30) (hk : k ≠ p.tab.own) : p.writeNode k.val fs =
    (readNode fs).elim (p, .badValue) fun e =>
      if (p.tab.setNode k e).keepsMaint = true then
        ({ p with tab := p.tab.setNode k e, sen := { p.sen with meters := p.sen.meters.set k e.capacity } }, .done)
      else (p, .selfCutoff) := by
  unfold writeNode
  simp only [ofNat_toNat_val, indexIn_fin 30 k (by omega), decide_eq_false hk, Bool.not_true, Bool.or_self,
    Bool.false_eq_true, if_false]
  cases readNode fs with
  | none => rfl
  | some e =>
    cases hm : (p.tab.setNode k e).keepsMaint <;> simp only [Option.elim_some, hm] <;> rfl

theorem writeQuantity_badIndex (h : (index < 0 ∨ 23 < index) ∨ index = 11) :
    p.writeQuantity index fs = (p, .badIndex) := by
  unfold writeQuantity
  refine if_pos ?_
  rcases h with h | rfl
  · rw [indexIn_outside h]
    rfl
  · rfl

theorem writeQuantity_at {q : Fin 24} (hq : q ≠ 11) : p.writeQuantity q.val fs =
    (readQuantity fs).elim (p, .badValue) fun e =>
      if e.source = p.tab.own ∨ e.holdsLimits p.tab q = false then (p, .badValue)
      else ((p.tabled fun t => { t with quantities := t.quantities.set q e }).rangeChanged q e, .done) := by
  have h11 : ¬(q.val : Int) = 11 := fun h => hq (Fin.ext (by exact_mod_cast h))
  unfold writeQuantity
  simp only [ofNat_toNat_val, indexIn_fin 23 q (by omega), decide_eq_false h11, Bool.not_true, Bool.or_self,
    Bool.false_eq_true, if_false]
  cases readQuantity fs <;> rfl

/-! ### RULE_A, RULE_B -/

theorem writeRule_badIndex {which : Bank} (h : index < 0 ∨ 47 < index) :
    p.writeRule which index fs = (p, .badIndex) := by
  unfold writeRule
  rw [indexIn_outside h]
  rfl

theorem writeRule_at {which : Bank} (k : Fin 48) : p.writeRule which k.val fs =
    if p.tab.active = which then (p, .activeBank)
    else (readRule fs).elim (p, .badValue) fun r => (p.tabled fun t => t.setRule which k r, .done) := by
  unfold writeRule
  rw [ofNat_toNat_val, indexIn_fin 47 k (by omega), if_neg (by decide)]
  cases readRule fs <;> rfl

/-! ### AXIS_MOTION, AXIS_GUARD -/

theorem writeMotion_badIndex (h : index < 0 ∨ 2 < index) : p.writeMotion index fs = (p, .badIndex) := by
  unfold writeMotion
  rw [axisOf_outside h]

theorem writeMotion_at (x : Axis) : p.writeMotion (axisCode x) fs =
    if (p.act.axes.get x).state.writable = true then
      (readMotion fs).elim (p, .badValue) fun m =>
        if (p.tab.quantity (positionOf x)).lo ≤ m.softMin ∧ m.softMax ≤ (p.tab.quantity (positionOf x)).hi then
          (p.tabled fun t => { t with motion := t.motion.set x m }, .done)
        else (p, .badValue)
    else (p, .inUse) := by
  unfold writeMotion
  rw [axis_codes.written]
  cases hw : (p.act.axes.get x).state.writable <;> cases readMotion fs <;> simp [hw]

theorem writeGuard_badIndex (h : index < 0 ∨ 2 < index) : p.writeGuard index fs = (p, .badIndex) := by
  unfold writeGuard
  rw [axisOf_outside h]

theorem writeGuard_at (x : Axis) : p.writeGuard (axisCode x) fs =
    if (p.act.axes.get x).state.writable = true then
      (readGuard fs).elim (p, .badValue) fun g =>
        if driveClashes p.tab x g = true then (p, .badValue)
        else
          (if g.drive = (p.tab.guard.get x).drive then p.tabled fun t => { t with guard := t.guard.set x g }
           else (p.tabled fun t => { t with guard := t.guard.set x g }).acting fun c a => a.newDrive c x, .done)
    else (p, .inUse) := by
  unfold writeGuard
  rw [axis_codes.written]
  cases hw : (p.act.axes.get x).state.writable <;> cases readGuard fs <;> simp [hw]

/-! ### PRESET, SEARCH, POINTING -/

theorem writePreset_badIndex (h : index < 0 ∨ 15 < index) : p.writePreset index fs = (p, .badIndex) := by
  unfold writePreset
  rw [indexIn_outside h]
  rfl

theorem writePreset_at (k : Fin 16) : p.writePreset k.val fs =
    (readPreset fs).elim (p, .badValue) fun r => (p.tabled fun t => { t with presets := t.presets.set k r }, .done) := by
  unfold writePreset
  simp only [ofNat_toNat_val, indexIn_fin 15 k (by omega), Bool.not_true, Bool.false_eq_true, if_false]
  cases readPreset fs <;> rfl

theorem writeSearch_badIndex (h : index ≠ 0) : p.writeSearch index fs = (p, .badIndex) := if_pos h

theorem writeSearch_zero : p.writeSearch 0 fs =
    if p.act.search.state.running = true then (p, .inUse)
    else (readSearch fs).elim (p, .badValue) fun r => (p.tabled fun t => { t with search := r }, .done) := by
  unfold writeSearch
  rw [if_neg (by decide)]
  cases readSearch fs <;> rfl

theorem writePointing_badIndex (h : index ≠ 0) : p.writePointing index fs = (p, .badIndex) := if_pos h

theorem writePointing_zero : p.writePointing 0 fs =
    (readPointing fs).elim (p, .badValue) fun r =>
      ((p.tabled fun t => { t with pointing := r }).acting Acting.guardMast, .done) := by
  unfold writePointing
  rw [if_neg (by decide)]
  cases readPointing fs <;> rfl

/-! ### LINE, PORT, REPORT -/

theorem writeLine_badIndex (h : index < 0 ∨ 7 < index) : p.writeLine index fs = (p, .badIndex) :=
  if_pos (by omega)

theorem writeLine_zero : p.writeLine 0 fs = (p, .fixedLine) := by
  unfold writeLine
  rw [if_neg (by decide), if_pos rfl]

theorem writeLine_at {k : Fin 8} (hk : k ≠ 0) : p.writeLine k.val fs =
    (readLine fs).elim (p, .badValue) fun r =>
      ({ p with
          tab := { p.tab with lines := p.tab.lines.set k r }
          sen := { p.sen with
            filters := p.sen.filters.set k
              (rewrittenFilter (p.tab.line k) r (p.sen.pins.getLsbD k.val) p.sen.filters[k]) } }, .done) := by
  have h0 : ¬(k.val : Int) = 0 := fun h => hk (Fin.ext (Int.natCast_eq_zero.1 h))
  unfold writeLine
  rw [if_neg (by omega), if_neg h0]
  simp only [ofNat_toNat_val]
  cases readLine fs <;> rfl

theorem writePort_badIndex (h : index < 0 ∨ 2 < index) : p.writePort index fs = (p, .badIndex) := by
  unfold writePort
  rw [portOf_outside h]

theorem writePort_at (k : Port) : p.writePort (portCode k) fs =
    (readPort fs).elim (p, .badValue) fun r =>
      if k = .c ∧ r.state = .closed then (p, .selfCutoff)
      else if k = .d ∧ r.state = .closed ∧ p.sen.mode = .operating then (p, .inUse)
      else ((p.tabled fun t => { t with ports := t.ports.set k r }).portChanged k (p.tab.ports.get k).state, .done) := by
  unfold writePort
  rw [port_codes.written]
  simp only [Ctx.operating_iff, ctx_sen]
  cases readPort fs <;> rfl

theorem writeReport_badIndex (h : index ≠ 0) : p.writeReport index fs = (p, .badIndex) := if_pos h

theorem writeReport_zero : p.writeReport 0 fs =
    (readReport fs).elim (p, .badValue) fun r =>
      ((p.tabled fun t => { t with report := r }).acting fun _ a =>
        { a with out := { a.out with statusTimer := some (r.period * 10000) } }, .done) := by
  unfold writeReport
  rw [if_neg (by decide)]
  cases readReport fs <;> rfl

/-! ### TABLE_WRITE -/

theorem tableWrite_short {ws : List Word} (h : ws.length < 2) : p.tableWrite ws = (p, .badValue) := by
  match ws, h with
  | [], _ => rfl
  | [_], _ => rfl

theorem tableWrite_noTable {id i : Word} (h : id.toInt < 1 ∨ 12 < id.toInt) :
    p.tableWrite (id :: i :: fs) = (p, .badTable) := by
  unfold tableWrite
  dsimp only
  split
  case h_13 => rfl
  all_goals omega

theorem tableWrite_rule (which : Bank) (i : Word) :
    p.tableWrite (ruleTable which :: i :: fs) = p.writeRule which i.toInt fs := by cases which <;> rfl

/-! ### Refusals -/

/-- R182: a result other than DONE leaves the part as it was. -/
def Keeps (p : Part) (r : Part × Result) : Prop := r.2 ≠ .done → r.1 = p

theorem keeps_refusal (p : Part) (result : Result) : p.Keeps (p, result) := fun _ => rfl

theorem keeps_done (p q : Part) : p.Keeps (q, .done) := fun h => absurd rfl h

theorem writeNode_keeps (p : Part) (index : Int) (fs : List Word) : p.Keeps (p.writeNode index fs) := by
  unfold writeNode
  dsimp only
  repeat' split
  exacts [keeps_refusal _ _, keeps_refusal _ _, keeps_refusal _ _, keeps_done _ _]

theorem writeQuantity_keeps (p : Part) (index : Int) (fs : List Word) : p.Keeps (p.writeQuantity index fs) := by
  unfold writeQuantity
  dsimp only
  repeat' split
  exacts [keeps_refusal _ _, keeps_refusal _ _, keeps_refusal _ _, keeps_done _ _]

theorem writeRule_keeps (p : Part) (which : Bank) (index : Int) (fs : List Word) :
    p.Keeps (p.writeRule which index fs) := by
  unfold writeRule
  repeat' split
  exacts [keeps_refusal _ _, keeps_refusal _ _, keeps_refusal _ _, keeps_done _ _]

theorem writeMotion_keeps (p : Part) (index : Int) (fs : List Word) : p.Keeps (p.writeMotion index fs) := by
  unfold writeMotion
  dsimp only
  repeat' split
  exacts [keeps_refusal _ _, keeps_refusal _ _, keeps_refusal _ _, keeps_done _ _, keeps_refusal _ _]

theorem writeGuard_keeps (p : Part) (index : Int) (fs : List Word) : p.Keeps (p.writeGuard index fs) := by
  unfold writeGuard
  split
  · exact keeps_refusal _ _
  · split
    · exact keeps_refusal _ _
    · split
      · exact keeps_refusal _ _
      · split
        · exact keeps_refusal _ _
        · exact keeps_done _ _

theorem writePreset_keeps (p : Part) (index : Int) (fs : List Word) : p.Keeps (p.writePreset index fs) := by
  unfold writePreset
  repeat' split
  exacts [keeps_refusal _ _, keeps_refusal _ _, keeps_done _ _]

theorem writeSearch_keeps (p : Part) (index : Int) (fs : List Word) : p.Keeps (p.writeSearch index fs) := by
  unfold writeSearch
  repeat' split
  exacts [keeps_refusal _ _, keeps_refusal _ _, keeps_refusal _ _, keeps_done _ _]

theorem writePointing_keeps (p : Part) (index : Int) (fs : List Word) : p.Keeps (p.writePointing index fs) := by
  unfold writePointing
  repeat' split
  exacts [keeps_refusal _ _, keeps_refusal _ _, keeps_done _ _]

theorem writeLine_keeps (p : Part) (index : Int) (fs : List Word) : p.Keeps (p.writeLine index fs) := by
  unfold writeLine
  repeat' split
  exacts [keeps_refusal _ _, keeps_refusal _ _, keeps_refusal _ _, keeps_done _ _]

theorem writePort_keeps (p : Part) (index : Int) (fs : List Word) : p.Keeps (p.writePort index fs) := by
  unfold writePort
  repeat' split
  exacts [keeps_refusal _ _, keeps_refusal _ _, keeps_refusal _ _, keeps_refusal _ _, keeps_done _ _]

theorem writeReport_keeps (p : Part) (index : Int) (fs : List Word) : p.Keeps (p.writeReport index fs) := by
  unfold writeReport
  repeat' split
  exacts [keeps_refusal _ _, keeps_refusal _ _, keeps_done _ _]

theorem tableWrite_keeps (p : Part) (ws : List Word) : p.Keeps (p.tableWrite ws) := by
  unfold tableWrite
  split
  · split
    · exact writeNode_keeps _ _ _
    · exact writeQuantity_keeps _ _ _
    · exact writeRule_keeps _ _ _ _
    · exact writeRule_keeps _ _ _ _
    · exact writeMotion_keeps _ _ _
    · exact writeGuard_keeps _ _ _
    · exact writePreset_keeps _ _ _
    · exact writeSearch_keeps _ _ _
    · exact writePointing_keeps _ _ _
    · exact writeLine_keeps _ _ _
    · exact writePort_keeps _ _ _
    · exact writeReport_keeps _ _ _
    · exact keeps_refusal _ _
  · exact keeps_refusal _ _

end Part

/-! ### A TABLE_WRITE that arrives -/

theorem Part.take_tableWrite (p : Part) (h : Header) (ws : List Word) :
    p.take (frameOf h .tableWrite ws) = (p.tableWrite ws).1.reply h.src .tableWrite (p.tableWrite ws).2 [] := rfl

/-- R148, R182: every TABLE_WRITE row is the write, answered with its result. -/
theorem exec_tableWrite {c : Instr} {s : State} {h : Header} {ws : List Word}
    (ha : c.arrival = some (h.port, frameOf h .tableWrite ws)) (hc : s.part.consumes h .tableWrite ws) :
    exec c s = .next (s.answered h .tableWrite ((c.seenBy (s.entered h)).tableWrite ws).2
      ((c.seenBy (s.entered h)).tableWrite ws).1) := by
  rw [exec_taken ha hc (by decide) (by decide), Part.take_tableWrite]
  rfl

end Sys2Proof.Machine
end

section
/-! SUPPORT. Frames of the wrong length or with a word out of range are answered BAD_VALUE (R145, R147). -/

namespace Sys2Proof.Machine

/-! ### Words out of range -/

theorem numIn_outside {lo hi : Int} {w : Word} (h : w.toInt < lo ∨ hi < w.toInt) : numIn lo hi w = none :=
  if_neg (by omega)

theorem natIn_outside {hi : Nat} {w : Word} (h : w.toInt < 0 ∨ hi < w.toInt) : natIn 0 hi w = none := by
  unfold natIn
  rw [numIn_outside (by exact_mod_cast h)]
  rfl

theorem finIn_outside {n : Nat} {w : Word} (h : w.toInt < 0 ∨ n < w.toInt) : finIn n w = none := by
  unfold finIn
  rw [natIn_outside h]
  rfl

theorem setIn8_outside {w : Word} (h : w.toInt < 0 ∨ 255 < w.toInt) : setIn 8 w = none := by
  unfold setIn
  rw [natIn_outside (by exact_mod_cast h)]
  rfl

theorem yesNo_outside {w : Word} (h : w.toInt < 0 ∨ 1 < w.toInt) : yesNo w = none := by
  unfold yesNo
  split
  case h_3 => rfl
  all_goals omega

theorem bankOf_outside {v : Int} (h : v < 0 ∨ 1 < v) : bankOf v = none := by
  unfold bankOf
  split
  case h_3 => rfl
  all_goals omega

theorem namedAxes_outside {w : Word} (h : w.toInt < 0 ∨ 3 < w.toInt) : namedAxes w = none := by
  unfold namedAxes
  rw [if_neg (by omega), axisOf_outside (by omega)]
  rfl

/-! ### Frames -/

namespace Part

variable {p : Part} {ws : List Word}

theorem bare_bad (f : Ctx → Acting → Acting × Result) (h : ws ≠ []) : p.bare ws f = (p, .badValue) := if_pos h

theorem naming_bad (f : (Axis → Bool) → Ctx → Acting → Acting × Result)
    (h : ∀ w, ws = [w] → w.toInt < 0 ∨ 3 < w.toInt) : p.naming ws f = (p, .badValue) := by
  unfold naming
  split
  next w => rw [namedAxes_outside (h w rfl)]
  · rfl

theorem jogFrame_bad (sender : Node) (h : ∀ w rate, ws = [w, rate] → w.toInt < 0 ∨ 2 < w.toInt) :
    p.jogFrame sender ws = (p, .badValue) := by
  unfold jogFrame
  split
  next w rate => rw [axisOf_outside (h w rate rfl)]
  · rfl

theorem swapFrame_bad (h : ∀ w, ws = [w] → w.toInt < 0 ∨ 1 < w.toInt) : p.swapFrame ws = (p, .badValue) := by
  unfold swapFrame
  split
  next w => rw [bankOf_outside (h w rfl)]
  · rfl

theorem readCounters_bad (h : ∀ w, ws = [w] → w.toInt < 0 ∨ 2 < w.toInt) :
    p.readCounters ws = (p, .badValue, []) := by
  unfold readCounters
  split
  next w => rw [portOf_outside (h w rfl)]
  · rfl

theorem linesSet_bad
    (h : ∀ m v, ws = [m, v] → (m.toInt < 0 ∨ 255 < m.toInt) ∨ v.toInt < 0 ∨ 255 < v.toInt) :
    p.linesSet ws = (p, .badValue) := by
  unfold linesSet
  split
  next m v =>
    rcases h m v rfl with hm | hv
    · rw [setIn8_outside hm]
    · rw [setIn8_outside hv]
      cases setIn 8 m <;> rfl
  · rfl

theorem lampTest_bad (h : ∀ a b, ws = [a, b] → (a.toInt < 0 ∨ 1 < a.toInt) ∨ b.toInt < 0 ∨ 1 < b.toInt) :
    p.lampTest ws = (p, .badValue) := by
  unfold lampTest
  split
  next a b =>
    rcases h a b rfl with ha | hb
    · rw [yesNo_outside ha]
    · rw [yesNo_outside hb]
      cases yesNo a <;> rfl
  · rfl

theorem startFrame_bad (h : ws ≠ []) : p.startFrame ws = (p, .badValue) := if_pos h

theorem resetFrame_bad (sender : Node) (h : ws ≠ []) :
    p.resetFrame sender ws = p.reply sender .reset .badValue [] := if_pos h

theorem readDrops_bad (h : ws ≠ []) : p.readDrops ws = (p, .badValue, []) := if_pos h

theorem readStatus_bad {f : Frame} (h : f.payload ≠ []) : p.readStatus f = answer f (p, .badValue) := if_pos h

theorem tableReadFrame_bad {f : Frame} (h : f.payload.length ≠ 2) : p.tableReadFrame f = answer f (p, .badValue) := by
  unfold tableReadFrame
  split
  next hf =>
    rw [hf] at h
    exact absurd rfl h
  · rfl

end Part

theorem Acting.takeAim_bad {c : Ctx} {sender : Node} {ws : List Word} {a : Acting}
    (h : ∀ w, ws = [w] → w.toInt < 0 ∨ 15 < w.toInt) : a.takeAim c sender ws = a.reply c sender .aim .badValue [] := by
  unfold takeAim
  split
  next w => rw [finIn_outside (by exact_mod_cast h w rfl)]
  · rfl

theorem Acting.takeGoto_bad {c : Ctx} {sender : Node} {ws : List Word} {a : Acting} (h : ws.length ≠ 3) :
    a.takeGoto c sender ws = a.reply c sender .goto .badValue [] := by
  unfold takeGoto
  split
  · exact absurd rfl h
  · rfl

/-- R145, R147: the payloads that a command refuses before anything else. -/
def Malformed (ws : List Word) : Kind → Prop
  | .reset | .start | .stow | .searchStart | .searchEnd | .readStatus | .readDrops => ws ≠ []
  | .aim => ∀ w, ws = [w] → w.toInt < 0 ∨ 15 < w.toInt
  | .stop | .clear => ∀ w, ws = [w] → w.toInt < 0 ∨ 3 < w.toInt
  | .bankSwap => ∀ w, ws = [w] → w.toInt < 0 ∨ 1 < w.toInt
  | .readCounters => ∀ w, ws = [w] → w.toInt < 0 ∨ 2 < w.toInt
  | .jog => ∀ w rate, ws = [w, rate] → w.toInt < 0 ∨ 2 < w.toInt
  | .linesSet => ∀ m v, ws = [m, v] → (m.toInt < 0 ∨ 255 < m.toInt) ∨ v.toInt < 0 ∨ 255 < v.toInt
  | .lampTest => ∀ a b, ws = [a, b] → (a.toInt < 0 ∨ 1 < a.toInt) ∨ b.toInt < 0 ∨ 1 < b.toInt
  | .goto => ws.length ≠ 3
  | .tableRead => ws.length ≠ 2
  | .tableWrite => ws.length < 2
  | .sample | .driveStatus | .demand | .nodeData | .status | .reply | .event => False

/-- A result, answered by a REPLY, of a frame that is refused. -/
theorem answer_refused {p : Part} {f : Frame} {r : Part × Result} (hr : r = (p, .badValue)) :
    answer f r = p.reply f.src f.kind .badValue [] := by rw [hr]; rfl

/-- R145, R147: a malformed command changes nothing but the REPLY. -/
theorem Part.take_malformed {ws : List Word} {k : Kind} (hb : Malformed ws k) (h : Header) (p : Part) :
    p.take (frameOf h k ws) = p.reply h.src k .badValue [] := by
  cases k
  case aim => exact congrArg (fun a => { p with act := a }) (Acting.takeAim_bad hb)
  case goto => exact congrArg (fun a => { p with act := a }) (Acting.takeGoto_bad hb)
  case jog => exact answer_refused (jogFrame_bad _ hb)
  case stop => exact answer_refused (naming_bad _ hb)
  case clear => exact answer_refused (naming_bad _ hb)
  case stow => exact answer_refused (bare_bad _ hb)
  case searchStart => exact answer_refused (bare_bad _ hb)
  case searchEnd => exact answer_refused (bare_bad _ hb)
  case start => exact answer_refused (startFrame_bad hb)
  case reset => exact resetFrame_bad _ hb
  case tableWrite => exact answer_refused (tableWrite_short hb)
  case tableRead => exact tableReadFrame_bad (f := frameOf h .tableRead ws) hb
  case bankSwap => exact answer_refused (swapFrame_bad hb)
  case readStatus => exact readStatus_bad (f := frameOf h .readStatus ws) hb
  case readCounters => exact congrArg (reporting (frameOf h .readCounters ws)) (readCounters_bad hb)
  case readDrops => exact congrArg (reporting (frameOf h .readDrops ws)) (readDrops_bad hb)
  case linesSet => exact answer_refused (linesSet_bad hb)
  case lampTest => exact answer_refused (lampTest_bad hb)
  all_goals exact hb.elim

end Sys2Proof.Machine
end

section
/-! PROOFS. O54: TABLE_READ, and the TABLE_WRITEs that are refused (R182, R183). -/

namespace Sys2Proof.Machine

theorem entryWords_at {n : Nat} {hi : Int} (k : Fin n) (h : (k.val : Int) ≤ hi) (f : Nat → List Word) :
    entryWords hi k.val f = (.done, f k.val) := if_pos (indexIn_fin hi k h)

theorem entryWords_outside {hi index : Int} (h : index < 0 ∨ hi < index) (f : Nat → List Word) :
    entryWords hi index f = (.badIndex, []) := if_neg (by rw [indexIn_outside h]; decide)

namespace Part

variable (p : Part)

theorem tableRead_noTable {id : Int} (h : id < 1 ∨ 13 < id) (index : Int) : p.tableRead id index = (.badTable, []) := by
  unfold tableRead
  split
  case h_14 => rfl
  all_goals omega

theorem tableRead_node (index : Int) : p.tableRead 1 index =
    entryWords 31 index fun k => p.nodeWords (Fin.ofNat 32 k) := rfl

theorem tableRead_quantity (index : Int) : p.tableRead 2 index =
    entryWords 23 index fun k => p.quantityWords (Fin.ofNat 24 k) := rfl

theorem tableRead_rule (which : Bank) (index : Int) : p.tableRead (ruleTable which).toInt index =
    entryWords 47 index fun k => p.ruleWords which (Fin.ofNat 48 k) := by cases which <;> rfl

theorem tableRead_axis (x : Axis) : p.tableRead 5 (axisCode x) = (.done, p.motionWords x)
    ∧ p.tableRead 6 (axisCode x) = (.done, p.guardWords x) := by
  cases x <;> exact ⟨rfl, rfl⟩

theorem tableRead_noAxis {index : Int} (h : index < 0 ∨ 2 < index) :
    p.tableRead 5 index = (.badIndex, []) ∧ p.tableRead 6 index = (.badIndex, []) := by
  have hx := axisOf_outside h
  exact ⟨congrArg (fun o => o.elim (Result.badIndex, []) fun x => (.done, p.motionWords x)) hx,
    congrArg (fun o => o.elim (Result.badIndex, []) fun x => (.done, p.guardWords x)) hx⟩

theorem tableRead_preset (index : Int) : p.tableRead 7 index =
    entryWords 15 index fun k => (p.tab.presets[Fin.ofNat 16 k]).words := rfl

theorem tableRead_search (index : Int) : p.tableRead 8 index =
    entryWords 1 index fun k => if k = 0 then p.tab.search.words else p.act.search.words := rfl

theorem tableRead_pointing (index : Int) : p.tableRead 9 index = entryWords 0 index fun _ => p.pointingWords := rfl

theorem tableRead_line (index : Int) : p.tableRead 10 index =
    entryWords 7 index fun k => p.lineWords (Fin.ofNat 8 k) := rfl

theorem tableRead_port (k : Port) : p.tableRead 11 (portCode k) = (.done, p.portWords k) := by cases k <;> rfl

theorem tableRead_noPort {index : Int} (h : index < 0 ∨ 2 < index) : p.tableRead 11 index = (.badIndex, []) :=
  congrArg (fun o => o.elim (Result.badIndex, []) fun k => (.done, p.portWords k)) (portOf_outside h)

theorem tableRead_report (index : Int) : p.tableRead 12 index = entryWords 0 index fun _ => p.reportWords := rfl

theorem tableRead_probe (index : Int) : p.tableRead 13 index =
    entryWords 7 index fun k => p.act.search.probeWords k := rfl

/-- R38: a used rule of the active bank reads its group. -/
theorem ruleWords_group {which : Bank} {k : Fin 48} (hu : (p.tab.bank which)[k].used = true) (ha : p.tab.active = which)
    {g : Group} (hg : p.sen.groupOf k.val = some g) : p.ruleWords which k =
      (p.tab.bank which)[k].words ++ [intWord (groupStateCode g.state), natWord g.trueRun, natWord g.falseRun] := by
  unfold ruleWords
  dsimp only
  rw [if_pos ⟨hu, ha.symm⟩, hg]

/-- R38: every other rule reads NONE. -/
theorem ruleWords_none {which : Bank} {k : Fin 48}
    (h : (p.tab.bank which)[k].used = false ∨ p.tab.active ≠ which ∨ p.sen.groupOf k.val = none) :
    p.ruleWords which k = (p.tab.bank which)[k].words ++ [0, 0, 0] := by
  unfold ruleWords
  dsimp only
  split
  next g hg =>
    split at hg
    next hu =>
      rcases h with h | h | h
      · rw [h] at hu
        exact absurd hu.1 (by decide)
      · exact absurd hu.2.symm h
      · rw [h] at hg
        cases hg
    · cases hg
  · rfl

end Part

/-- R109: the runtime words of the search. -/
theorem SearchRun.words_eq (s : SearchRun) : s.words =
    [intWord (searchStateCode s.state), intWord (failureReasonCode s.reason), if s.turn = .pan then 1 else 2,
      intWord (if s.positive then 1 else -1), natWord s.step, natWord s.count, intWord (absentOr (s.centre.map (·.pan))),
      intWord (absentOr (s.centre.map (·.tilt))), intWord (absentOr (s.best.map (·.pan))),
      intWord (absentOr (s.best.map (·.tilt))), intWord (absentOr s.bestLevel), intWord (absentOr s.peak),
      natWord s.repeaks] := by
  unfold SearchRun.words
  cases s.turn <;> rfl

/-- R98: the runtime words of pointing. -/
theorem Part.pointingWords_eq (p : Part) : p.pointingWords = p.tab.pointing.words ++
    [intWord (absentOr (p.act.pointing.lastPreset.map fun n => (n.val : Int))),
      intWord (absentOr p.act.pointing.snapshot), if p.act.pointing.pending.isSome then 1 else 0] := by
  unfold Part.pointingWords
  dsimp only
  rw [flagWord_eq]

/-- R32: the runtime word of a line. -/
theorem Part.lineWords_eq (k : Fin 8) (p : Part) : p.lineWords k = (p.tab.line k).words ++
    [if (Word.ofInt p.sen.lines).getLsbD k.val then 1 else 0] := by
  unfold Part.lineWords
  rw [flagWord_eq]
  rfl

/-- R118: an entry of the probe history. -/
theorem SearchRun.probeWords_held {s : SearchRun} {k : Nat} {e : ProbeEntry} (h : s.history[k]? = some e) :
    s.probeWords k = [1, intWord e.goal.pan, intWord e.goal.tilt, intWord e.level, if e.accepted then 1 else 0,
      natWord e.step] := by
  unfold SearchRun.probeWords
  rw [h]
  dsimp only
  rw [flagWord_eq]

theorem SearchRun.probeWords_empty {s : SearchRun} {k : Nat} (h : s.history.length ≤ k) :
    s.probeWords k = 0 :: List.replicate 5 (intWord absentMarker) := by
  unfold SearchRun.probeWords
  rw [List.getElem?_eq_none h]

/-- Settles O54. -/
theorem tableReadsAndRefusalsChangeNothing : Obligations.TableReadsAndRefusalsChangeNothing := by
  refine ⟨fun ws p => Part.tableWrite_keeps p ws, fun c s h ws ha hc => exec_tableWrite ha hc,
    fun c s h k ws ha hc => ?_, fun s h id index hc => State.run_taken hc (by decide) (by decide), fun p index => ?_⟩
  · intro off bad hb
    have hm : Malformed ws k := by cases k <;> exact hb
    rw [exec_taken ha hc (by rintro rfl; exact hb) (by rintro rfl; exact hb), Part.take_malformed hm]
    rfl
  · intro int nat flag maybe outside
    refine ⟨fun id hid => p.tableRead_noTable hid index, fun n => ?_,
      fun ho => (p.tableRead_node index).trans (entryWords_outside ho _), fun q => ?_,
      fun ho => (p.tableRead_quantity index).trans (entryWords_outside ho _), fun which k => ?_,
      fun ho => ⟨(p.tableRead_rule .a index).trans (entryWords_outside ho _),
        (p.tableRead_rule .b index).trans (entryWords_outside ho _)⟩,
      fun x => p.tableRead_axis x, fun ho => p.tableRead_noAxis ho, fun n => ?_,
      fun ho => (p.tableRead_preset index).trans (entryWords_outside ho _), rfl, ?_,
      fun ho => (p.tableRead_search index).trans (entryWords_outside ho _), ?_, fun k => ?_,
      fun ho => (p.tableRead_line index).trans (entryWords_outside ho _), fun k => ?_, fun ho => p.tableRead_noPort ho,
      rfl, fun ho => ⟨(p.tableRead_pointing index).trans (entryWords_outside ho _),
        (p.tableRead_report index).trans (entryWords_outside ho _)⟩,
      fun k => ⟨fun e he => ?_, fun he => ?_⟩,
      fun ho => (p.tableRead_probe index).trans (entryWords_outside ho _)⟩
    · rw [Part.tableRead_node, entryWords_at n (by omega), Fin.ofNat_val_eq_self]
      rfl
    · rw [Part.tableRead_quantity, entryWords_at q (by omega), Fin.ofNat_val_eq_self]
      rfl
    · have at_k : p.tableRead (ruleTable which).toInt k.val = (.done, p.ruleWords which k) := by
        rw [Part.tableRead_rule, entryWords_at k (by omega), Fin.ofNat_val_eq_self]
      refine ⟨fun hu ha g hg => ?_, fun h => ?_⟩
      · rw [at_k, p.ruleWords_group hu ha hg]
        rfl
      · rw [at_k, p.ruleWords_none h]
    · rw [Part.tableRead_preset, entryWords_at n (by omega)]
      simp only [Fin.ofNat_val_eq_self]
    · exact congrArg (Prod.mk Result.done) p.act.search.words_eq
    · exact congrArg (Prod.mk Result.done) p.pointingWords_eq
    · rw [Part.tableRead_line, entryWords_at k (by omega), Fin.ofNat_val_eq_self]
      exact congrArg (Prod.mk Result.done) (p.lineWords_eq k)
    · rw [Part.tableRead_port]
      cases k <;> rfl
    · rw [Part.tableRead_probe, entryWords_at k (by omega), SearchRun.probeWords_held he]
      rfl
    · rw [Part.tableRead_probe, entryWords_at k (by omega), SearchRun.probeWords_empty he]
      rfl

end Sys2Proof.Machine
end

section
/-! PROOFS. O52: the results of a TABLE_WRITE, and the writes that replace an entry alone (R13, R20, R36, R62, R94,
R97, R107, R151, R156, R182, R184). -/

namespace Sys2Proof.Machine

namespace Part

variable {p : Part} {fs : List Word} {i : Word}

/-! ### The result of each write at an index of its table -/

theorem writeNode_result {k : Node} (h30 : k.val ≤ 30) (hk : k ≠ p.tab.own) :
    (readNode fs = none → (p.writeNode k.val fs).2 = .badValue)
    ∧ ∀ r, readNode fs = some r →
      (¬(p.tab.setNode k r).keepsMaint = true → (p.writeNode k.val fs).2 = .selfCutoff)
      ∧ ((p.tab.setNode k r).keepsMaint = true → (p.writeNode k.val fs).2 = .done) := by
  rw [writeNode_at h30 hk]
  refine ⟨fun h => by rw [h]; rfl, fun r h => ⟨fun hm => ?_, fun hm => ?_⟩⟩
  · rw [h, Option.elim_some, if_neg hm]
  · rw [h, Option.elim_some, if_pos hm]

theorem writeQuantity_result {q : Fin 24} (hq : q ≠ 11) :
    (readQuantity fs = none → (p.writeQuantity q.val fs).2 = .badValue)
    ∧ ∀ r, readQuantity fs = some r →
      (r.source = p.tab.own ∨ ¬r.holdsLimits p.tab q = true → (p.writeQuantity q.val fs).2 = .badValue)
      ∧ (r.source ≠ p.tab.own → r.holdsLimits p.tab q = true → (p.writeQuantity q.val fs).2 = .done) := by
  rw [writeQuantity_at hq]
  refine ⟨fun h => by rw [h]; rfl, fun r h => ⟨fun hb => ?_, fun hs hl => ?_⟩⟩
  · rw [h, Option.elim_some, if_pos (hb.imp_right Bool.eq_false_iff.2)]
  · rw [h, Option.elim_some, if_neg (not_or.2 ⟨hs, by rw [hl]; decide⟩)]

theorem writeRule_result {which : Bank} (k : Fin 48) :
    (p.tab.active = which → (p.writeRule which k.val fs).2 = .activeBank)
    ∧ (p.tab.active ≠ which → readRule fs = none → (p.writeRule which k.val fs).2 = .badValue)
    ∧ (p.tab.active ≠ which → (readRule fs).isSome = true → (p.writeRule which k.val fs).2 = .done) := by
  rw [writeRule_at k]
  refine ⟨fun ha => by rw [if_pos ha], fun ha h => by rw [if_neg ha, h]; rfl, fun ha h => ?_⟩
  obtain ⟨r, hr⟩ := Option.isSome_iff_exists.1 h
  rw [if_neg ha, hr]
  rfl

theorem writeMotion_result (x : Axis) :
    (¬(p.act.axes.get x).state.writable = true → (p.writeMotion (axisCode x) fs).2 = .inUse)
    ∧ ((p.act.axes.get x).state.writable = true → readMotion fs = none →
        (p.writeMotion (axisCode x) fs).2 = .badValue)
    ∧ ((p.act.axes.get x).state.writable = true → ∀ r, readMotion fs = some r →
      let inside := (p.tab.quantity (positionOf x)).lo ≤ r.softMin ∧ r.softMax ≤ (p.tab.quantity (positionOf x)).hi
      (¬inside → (p.writeMotion (axisCode x) fs).2 = .badValue)
      ∧ (inside → (p.writeMotion (axisCode x) fs).2 = .done)) := by
  rw [writeMotion_at x]
  refine ⟨fun hw => by rw [if_neg hw], fun hw h => by rw [if_pos hw, h]; rfl,
    fun hw r h => ⟨fun hin => ?_, fun hin => ?_⟩⟩
  · rw [if_pos hw, h, Option.elim_some, if_neg hin]
  · rw [if_pos hw, h, Option.elim_some, if_pos hin]

theorem writeGuard_result (x : Axis) :
    (¬(p.act.axes.get x).state.writable = true → (p.writeGuard (axisCode x) fs).2 = .inUse)
    ∧ ((p.act.axes.get x).state.writable = true → readGuard fs = none →
        (p.writeGuard (axisCode x) fs).2 = .badValue)
    ∧ ((p.act.axes.get x).state.writable = true → ∀ r, readGuard fs = some r →
      (driveClashes p.tab x r = true → (p.writeGuard (axisCode x) fs).2 = .badValue)
      ∧ (¬driveClashes p.tab x r = true → (p.writeGuard (axisCode x) fs).2 = .done)) := by
  rw [writeGuard_at x]
  refine ⟨fun hw => by rw [if_neg hw], fun hw h => by rw [if_pos hw, h]; rfl,
    fun hw r h => ⟨fun hcl => ?_, fun hcl => ?_⟩⟩
  · rw [if_pos hw, h, Option.elim_some, if_pos hcl]
  · rw [if_pos hw, h, Option.elim_some, if_neg hcl]

theorem writePreset_result (k : Fin 16) :
    (readPreset fs = none → (p.writePreset k.val fs).2 = .badValue)
    ∧ ((readPreset fs).isSome = true → (p.writePreset k.val fs).2 = .done) := by
  rw [writePreset_at k]
  refine ⟨fun h => by rw [h]; rfl, fun h => ?_⟩
  obtain ⟨r, hr⟩ := Option.isSome_iff_exists.1 h
  rw [hr]
  rfl

theorem writeSearch_result :
    (p.act.search.state.running = true → (p.writeSearch 0 fs).2 = .inUse)
    ∧ (p.act.search.state.running = false → (readSearch fs = none → (p.writeSearch 0 fs).2 = .badValue)
      ∧ ((readSearch fs).isSome = true → (p.writeSearch 0 fs).2 = .done)) := by
  rw [writeSearch_zero]
  refine ⟨fun hr => by rw [if_pos hr], fun hr => ⟨fun h => by rw [if_neg (by rw [hr]; decide), h]; rfl, fun h => ?_⟩⟩
  obtain ⟨r, hs⟩ := Option.isSome_iff_exists.1 h
  rw [if_neg (by rw [hr]; decide), hs]
  rfl

theorem writePointing_result :
    (readPointing fs = none → (p.writePointing 0 fs).2 = .badValue)
    ∧ ((readPointing fs).isSome = true → (p.writePointing 0 fs).2 = .done) := by
  rw [writePointing_zero]
  refine ⟨fun h => by rw [h]; rfl, fun h => ?_⟩
  obtain ⟨r, hr⟩ := Option.isSome_iff_exists.1 h
  rw [hr]
  rfl

theorem writeLine_result {k : Fin 8} (hk : k ≠ 0) :
    (readLine fs = none → (p.writeLine k.val fs).2 = .badValue)
    ∧ ((readLine fs).isSome = true → (p.writeLine k.val fs).2 = .done) := by
  rw [writeLine_at hk]
  refine ⟨fun h => by rw [h]; rfl, fun h => ?_⟩
  obtain ⟨r, hr⟩ := Option.isSome_iff_exists.1 h
  rw [hr]
  rfl

theorem writePort_result (k : Port) :
    (readPort fs = none → (p.writePort (portCode k) fs).2 = .badValue)
    ∧ ∀ r, readPort fs = some r →
      let cutoff := k = .c ∧ r.state = .closed
      let inUse := k = .d ∧ r.state = .closed ∧ p.sen.mode = .operating
      (cutoff → (p.writePort (portCode k) fs).2 = .selfCutoff)
      ∧ (inUse → (p.writePort (portCode k) fs).2 = .inUse)
      ∧ (¬cutoff → ¬inUse → (p.writePort (portCode k) fs).2 = .done) := by
  rw [writePort_at k]
  refine ⟨fun h => by rw [h]; rfl, fun r h => ⟨fun hc => ?_, fun hu => ?_, fun hc hu => ?_⟩⟩
  · rw [h, Option.elim_some, if_pos hc]
  · have hc : ¬(k = .c ∧ r.state = .closed) := by
      rintro ⟨rfl, _⟩
      cases hu.1
    rw [h, Option.elim_some, if_neg hc, if_pos hu]
  · rw [h, Option.elim_some, if_neg hc, if_neg hu]

theorem writeReport_result :
    (readReport fs = none → (p.writeReport 0 fs).2 = .badValue)
    ∧ ((readReport fs).isSome = true → (p.writeReport 0 fs).2 = .done) := by
  rw [writeReport_zero]
  refine ⟨fun h => by rw [h]; rfl, fun h => ?_⟩
  obtain ⟨r, hr⟩ := Option.isSome_iff_exists.1 h
  rw [hr]
  rfl

/-! ### The writes that replace an entry alone -/

theorem writeNode_done {k : Node} {r : NodeEntry} (h30 : k.val ≤ 30) (hk : k ≠ p.tab.own) (hr : readNode fs = some r)
    (hm : (p.tab.setNode k r).keepsMaint = true) : p.writeNode k.val fs =
      ({ p with tab := p.tab.setNode k r, sen := { p.sen with meters := p.sen.meters.set k r.capacity } }, .done) := by
  rw [writeNode_at h30 hk, hr]
  exact if_pos hm

theorem writeRule_done {which : Bank} (k : Fin 48) {r : Rule} (ha : p.tab.active ≠ which) (hr : readRule fs = some r) :
    p.writeRule which k.val fs = ({ p with tab := p.tab.setRule which k r }, .done) := by
  rw [writeRule_at k, if_neg ha, hr]
  rfl

theorem writeMotion_done {x : Axis} {r : MotionRecord}
    (hst : (p.act.axes.get x).state = .stopped ∨ (p.act.axes.get x).state = .fault) (hr : readMotion fs = some r)
    (hlo : (p.tab.quantity (positionOf x)).lo ≤ r.softMin) (hhi : r.softMax ≤ (p.tab.quantity (positionOf x)).hi) :
    p.writeMotion (axisCode x) fs =
      ({ p with tab := { p.tab with motion := p.tab.motion.set x r } }, .done) := by
  rw [writeMotion_at x, if_pos (AxisState.writable_iff.2 hst), hr]
  exact if_pos ⟨hlo, hhi⟩

theorem writePreset_done (k : Fin 16) {r : PresetRecord} (hr : readPreset fs = some r) : p.writePreset k.val fs =
    ({ p with tab := { p.tab with presets := p.tab.presets.set k r } }, .done) := by
  rw [writePreset_at k, hr]
  rfl

theorem writeSearch_done {r : SearchRecord} (hst : p.act.search.state = .idle ∨ p.act.search.state = .failed)
    (hr : readSearch fs = some r) : p.writeSearch 0 fs = ({ p with tab := { p.tab with search := r } }, .done) := by
  have : ¬p.act.search.state.running = true := by rcases hst with h | h <;> rw [h] <;> decide
  rw [writeSearch_zero, if_neg this, hr]
  rfl

theorem writeReport_done {r : ReportRecord} (hr : readReport fs = some r) : p.writeReport 0 fs =
    ({ p with
        tab := { p.tab with report := r }
        act := { p.act with out := { p.act.out with statusTimer := some (r.period * 10000) } } }, .done) := by
  rw [writeReport_zero, hr]
  rfl

end Part

/-! ### A write that is taken -/

/-- R148, R182: a TABLE_WRITE that leaves the part `q` with the result `r`. -/
theorem exec_tableWrite_eq {c : Instr} {s : State} {h : Header} {ws : List Word} {q : Part} {r : Result}
    (ha : c.arrival = some (h.port, frameOf h .tableWrite ws)) (hc : s.part.consumes h .tableWrite ws)
    (hw : (c.seenBy (s.entered h)).tableWrite ws = (q, r)) : exec c s = .next (s.answered h .tableWrite r q) := by
  rw [exec_tableWrite ha hc, hw]

/-- An index within 0..hi is that of an entry. -/
theorem exists_fin_of_inside {v : Int} (n : Nat) (h : ¬(v < 0 ∨ (n : Int) < v)) : ∃ k : Fin (n + 1), v = k.val :=
  ⟨⟨v.toNat, by omega⟩, by simp only; omega⟩

theorem AxisState.not_writable_iff {st : AxisState} : ¬st.writable = true ↔ st ≠ .stopped ∧ st ≠ .fault := by
  rw [AxisState.writable_iff, not_or]

/-- Settles O52. -/
theorem tableWritesReplaceEntries : Obligations.TableWritesReplaceEntries := by
  refine ⟨fun s h ws hc hs => exec_tableWrite_eq rfl hc (Part.tableWrite_short hs), fun p i fs => ?_,
    fun s h i fs => ⟨?_, ?_, ?_, ?_, ?_, ?_, ?_⟩⟩
  · intro result outside busy
    have zero : i = 0 → i.toInt = 0 := toInt_eq_zero.2
    have nonzero : i ≠ 0 → i.toInt ≠ 0 := fun hi h => hi (toInt_eq_zero.1 h)
    refine ⟨fun ho => congrArg Prod.snd (Part.writeNode_badIndex ho), fun k hi h30 hk => ?_,
      fun ho => congrArg Prod.snd (Part.writeQuantity_badIndex ho), fun q hi hq => ?_,
      fun which => ⟨fun ho => ?_, fun ho => ?_⟩,
      fun ho => ⟨congrArg Prod.snd (Part.writeMotion_badIndex ho), congrArg Prod.snd (Part.writeGuard_badIndex ho)⟩,
      fun x hi => ?_, fun ho => congrArg Prod.snd (Part.writePreset_badIndex ho), fun ho => ?_,
      fun hi => ⟨congrArg Prod.snd (Part.writeSearch_badIndex (nonzero hi)),
        congrArg Prod.snd (Part.writePointing_badIndex (nonzero hi)),
        congrArg Prod.snd (Part.writeReport_badIndex (nonzero hi))⟩,
      fun hi => ?_, fun ho => congrArg Prod.snd (Part.writeLine_badIndex ho), fun hi => ?_, fun hi hi' => ?_,
      fun ho => congrArg Prod.snd (Part.writePort_badIndex ho), fun k hi => ?_,
      fun id hid => congrArg Prod.snd (Part.tableWrite_noTable hid), rfl, rfl⟩
    · have at_k : p.tableWrite (1 :: i :: fs) = p.writeNode k.val fs := congrArg (p.writeNode · fs) hi
      have hr := Part.writeNode_result (fs := fs) h30 hk
      simp only [Tables.keepsMaint_iff] at hr
      simp only [result, at_k]
      exact hr
    · have at_q : p.tableWrite (2 :: i :: fs) = p.writeQuantity q.val fs := congrArg (p.writeQuantity · fs) hi
      simp only [result, at_q]
      simpa only [QuantityEntry.holdsLimits_iff] using Part.writeQuantity_result (fs := fs) hq
    · simp only [result, Part.tableWrite_rule]
      exact congrArg Prod.snd (Part.writeRule_badIndex ho)
    · obtain ⟨k, hk⟩ := exists_fin_of_inside 47 ho
      simp only [result, Part.tableWrite_rule, hk]
      exact Part.writeRule_result k
    · have at_5 : p.tableWrite (5 :: i :: fs) = p.writeMotion (axisCode x) fs := congrArg (p.writeMotion · fs) hi
      have at_6 : p.tableWrite (6 :: i :: fs) = p.writeGuard (axisCode x) fs := congrArg (p.writeGuard · fs) hi
      have motion := Part.writeMotion_result (p := p) (fs := fs) x
      have guard := Part.writeGuard_result (p := p) (fs := fs) x
      simp only [driveClashes_iff] at guard
      have busy_iff : busy x ↔ ¬(p.act.axes.get x).state.writable = true := AxisState.not_writable_iff.symm
      simp only [result, at_5, at_6, busy_iff, not_not]
      exact ⟨fun hb => ⟨motion.1 hb, guard.1 hb⟩, motion.2.1, motion.2.2, guard.2.1, guard.2.2⟩
    · obtain ⟨k, hk⟩ := exists_fin_of_inside 15 ho
      have at_k : p.tableWrite (7 :: i :: fs) = p.writePreset k.val fs := congrArg (p.writePreset · fs) hk
      simp only [result, at_k]
      exact Part.writePreset_result k
    · have at_8 : p.tableWrite (8 :: i :: fs) = p.writeSearch 0 fs := congrArg (p.writeSearch · fs) (zero hi)
      have at_9 : p.tableWrite (9 :: i :: fs) = p.writePointing 0 fs := congrArg (p.writePointing · fs) (zero hi)
      have at_12 : p.tableWrite (12 :: i :: fs) = p.writeReport 0 fs := congrArg (p.writeReport · fs) (zero hi)
      simp only [result, at_8, at_9, at_12]
      exact ⟨Part.writeSearch_result.1, Part.writeSearch_result.2, Part.writePointing_result.1,
        Part.writePointing_result.2, Part.writeReport_result⟩
    · exact congrArg Prod.snd ((congrArg (p.writeLine · fs) (zero hi)).trans Part.writeLine_zero)
    · obtain ⟨k, hk⟩ := exists_fin_of_inside (v := i.toInt) 7 (by omega)
      have at_k : p.tableWrite (10 :: i :: fs) = p.writeLine k.val fs := congrArg (p.writeLine · fs) hk
      have hk0 : k ≠ 0 := by
        rintro rfl
        simp only [Fin.val_zero] at hk
        omega
      simp only [result, at_k]
      exact Part.writeLine_result hk0
    · have at_k : p.tableWrite (11 :: i :: fs) = p.writePort (portCode k) fs := congrArg (p.writePort · fs) hi
      simp only [result, at_k]
      exact Part.writePort_result k
  · intro k r hc hi h30 hk hr hm
    exact exec_tableWrite_eq rfl hc ((congrArg ((s.entered h).writeNode · fs) hi).trans
      (Part.writeNode_done (p := s.entered h) h30 hk hr hm))
  · intro which k r hc hi ha hr
    exact exec_tableWrite_eq rfl hc ((Part.tableWrite_rule which i).trans
      ((congrArg ((s.entered h).writeRule which · fs) hi).trans (Part.writeRule_done (p := s.entered h) k ha hr)))
  · intro x r hc hx hst hr hlo hhi
    exact exec_tableWrite_eq rfl hc ((congrArg ((s.entered h).writeMotion · fs) (axis_codes.read hx)).trans
      (Part.writeMotion_done (p := s.entered h) hst hr hlo hhi))
  · intro k r hc hi hr
    exact exec_tableWrite_eq rfl hc ((congrArg ((s.entered h).writePreset · fs) hi).trans
      (Part.writePreset_done (p := s.entered h) k hr))
  · intro r hc hi hst hr
    exact exec_tableWrite_eq rfl hc ((congrArg ((s.entered h).writeSearch · fs) (toInt_eq_zero.2 hi)).trans
      (Part.writeSearch_done (p := s.entered h) hst hr))
  · intro r hc hi hr
    exact exec_tableWrite_eq rfl hc ((congrArg ((s.entered h).writeReport · fs) (toInt_eq_zero.2 hi)).trans
      (Part.writeReport_done (p := s.entered h) hr))
  · intro id hc hid
    exact exec_tableWrite_eq rfl hc (Part.tableWrite_noTable hid)

end Sys2Proof.Machine
end

section
/-! SUPPORT. A hand-off of axis changes commands no rate: the search, pointing and the sequencer change the owners,
states and goals of axes, and leave every v_prev as it was (R68, R69, R70, R91). -/

namespace Sys2Proof.Machine

theorem AxisRun.claimed_vPrev (m : MotionRecord) (o : Owner) (g : Int) (r : AxisRun) :
    (r.claimed m o g).vPrev = r.vPrev := by
  unfold AxisRun.claimed
  dsimp only
  split <;> rfl

theorem AxisRun.released_vPrev (r : AxisRun) : r.released.vPrev = r.vPrev := by
  unfold AxisRun.released
  split <;> rfl

theorem AxisRun.stoppedBy_vPrev (r : AxisRun) : r.stoppedBy.vPrev = r.vPrev := by
  unfold AxisRun.stoppedBy
  split <;> rfl

theorem AxisRun.held_vPrev (r : AxisRun) : r.held.vPrev = 0 := by
  unfold AxisRun.held
  split <;> rfl

/-- Every axis keeps its v_prev, and nothing is placed for port D or port S. -/
structure Acting.Coasts (a b : Acting) : Prop where
  vPrev : ∀ x, (b.axes.get x).vPrev = (a.axes.get x).vPrev
  out : a.out.OnlyC b.out

namespace Acting.Coasts

variable {c : Ctx} {a b d : Acting}

theorem refl (a : Acting) : a.Coasts a := ⟨fun _ => rfl, .refl _⟩

theorem trans (h₁ : a.Coasts b) (h₂ : b.Coasts d) : a.Coasts d :=
  ⟨fun x => (h₂.vPrev x).trans (h₁.vPrev x), h₁.out.trans h₂.out⟩

/-- A change of what is neither an axis record nor the output side. -/
theorem aside (axes : b.axes = a.axes) (out : b.out = a.out) : a.Coasts b :=
  ⟨fun x => by rw [axes], by rw [out]; exact .refl _⟩

theorem raise (k : EventKind) (ws : List Word) (a : Acting) : a.Coasts (a.raise c k ws) :=
  ⟨fun _ => rfl, .raise _ _ _ _ _⟩

theorem ite {p : Prop} [Decidable p] (h : a.Coasts b) : a.Coasts (if p then b else a) := by
  split
  · exact h
  · exact refl a

theorem shiftQuiet (f : Axis → AxisRun → AxisRun) (hf : ∀ x r, (f x r).vPrev = r.vPrev) (a : Acting) :
    a.Coasts (a.shiftQuiet c f) := by
  constructor
  · intro x
    unfold Acting.shiftQuiet
    rw [Acting.shift_get]
    exact hf x _
  · set t : PerAxis AxisRun := ⟨f .mast a.axes.mast, f .pan a.axes.pan, f .tilt a.axes.tilt⟩ with ht
    have reported : (a.setAxes c t).out.OnlyC (a.shiftQuiet c f).out :=
      Acting.reportAxes_onlyC c a.axes { a.setAxes c t with pointing := a.pointing.watch t }
    rwa [Acting.setAxes_out] at reported

theorem claim (o : Owner) (goal : Axis → Option Int) (a : Acting) : a.Coasts (a.claim c o goal) := by
  refine shiftQuiet _ (fun x r => ?_) a
  split
  · exact r.claimed_vPrev _ _ _
  · rfl

theorem release (o : Owner) (a : Acting) : a.Coasts (a.release c o) := by
  refine shiftQuiet _ (fun x r => ?_) a
  split
  · exact r.released_vPrev
  · rfl

/-! ### The search -/

theorem endSearch (st : SearchState) (r : FailureReason) (e : Ending) (a : Acting) : a.Coasts (a.endSearch c st r e) :=
  have ended : a.Coasts (a.searching (·.ended st r)) := aside rfl rfl
  (ended.trans (release .search _)).trans (raise _ _ _)

theorem failSearch (r : FailureReason) (a : Acting) : a.Coasts (a.failSearch c r) := ite (endSearch _ _ _ a)

theorem peakOrFail (a : Acting) : a.Coasts (a.peakOrFail c) := by
  unfold Acting.peakOrFail
  split
  · split
    · exact aside rfl rfl
    · exact failSearch _ a
  · exact failSearch _ a

theorem returnCheck (a : Acting) : a.Coasts (a.returnCheck c) := ite (peakOrFail a)

theorem resumeSearch (a : Acting) : a.Coasts (a.resumeSearch c) := by
  unfold Acting.resumeSearch
  split
  · exact aside rfl rfl
  · exact trans (b := a.searching fun s => { s with state := .probing, timer := none, buffer := [] }) (aside rfl rfl)
      (returnCheck _)

theorem leaveCause (f : SuspendCauses → SuspendCauses) (a : Acting) : a.Coasts (a.leaveCause c f) := by
  unfold Acting.leaveCause
  dsimp only
  split
  · split
    · exact trans (b := a.searching fun s => { s with causes := f s.causes }) (aside rfl rfl) (resumeSearch _)
    · exact aside rfl rfl
  · exact refl a

theorem enterCause (f : SuspendCauses → SuspendCauses) (a : Acting) : a.Coasts (a.enterCause c f) := aside rfl rfl

theorem searchSeesAxes (old : PerAxis AxisRun) (a : Acting) : a.Coasts (a.searchSeesAxes c old) := by
  unfold Acting.searchSeesAxes
  dsimp only
  refine .trans ?_ (returnCheck _)
  refine .trans ?_ (ite (leaveCause _ _))
  refine .trans ?_ (ite (leaveCause _ _))
  refine .trans ?_ (ite (enterCause _ _))
  refine .trans ?_ (ite (enterCause _ _))
  exact ite (aside rfl rfl)

theorem beginSearch (a : Acting) : a.Coasts (a.beginSearch c) := by
  have begun : ∀ g : PanTilt, a.Coasts ((a.claim c .search g.goals).searching (·.begun c.tab.search g)) :=
    fun g => (claim .search g.goals a).trans (aside (Acting.searching_axes _ _) (Acting.searching_out _ _))
  unfold Acting.beginSearch
  dsimp only
  split
  · exact (begun _).trans (enterCause _ _)
  · exact begun _

theorem startSearch (n : Node) (a : Acting) : a.Coasts (a.startSearch c n).1 := by
  unfold Acting.startSearch
  dsimp only
  split
  · exact aside rfl rfl
  · exact trans (b := a.searching SearchRun.forgiven) (aside rfl rfl) (beginSearch _)

theorem searchAfter (a : Acting) : a.Coasts (a.searchAfter c) := by
  unfold Acting.searchAfter
  split
  · exact refl a
  next sender _ =>
    have started : a.Coasts
        (({ a with pointing := { a.pointing with pending := none } } : Acting).startSearch c sender).1 :=
      trans (b := { a with pointing := { a.pointing with pending := none } }) (aside rfl rfl) (startSearch sender _)
    dsimp only
    split
    · split
      · exact started
      · exact started
      · exact started.trans (raise _ _ _)
    · exact refl a

/-! ### The sequencer -/

theorem partAxes (how : Parting) (a : Acting) : a.Coasts (a.partAxes c how) := by
  unfold Acting.partAxes
  split
  · exact release .safety a
  · refine shiftQuiet _ (fun x r => ?_) a
    split
    · exact r.stoppedBy_vPrev
    · rfl
  · exact refl a

theorem endSequence (e : Ending) (r : SequenceReason) (how : Parting) (a : Acting) :
    a.Coasts (a.endSequence c e r how) := by
  have idle : a.Coasts { a with seq := { a.seq with state := .idle, timer := none } } := aside rfl rfl
  set parted : Acting := Acting.lowerEnds c a.seq.state
    (Acting.partAxes c how { a with seq := { a.seq with state := .idle, timer := none } }) with hparted
  have ended : a.Coasts parted := (idle.trans (partAxes how _)).trans (ite (leaveCause _ _))
  have recorded : parted.Coasts { parted with seq := parted.seq.record a.seq.state.sequence e r } := aside rfl rfl
  exact (ended.trans recorded).trans (raise _ _ _)

theorem enterPhase (st : SequenceState) (x : Axis) {done : Acting → Acting} (hd : ∀ b : Acting, b.Coasts (done b))
    (a : Acting) : a.Coasts (a.enterPhase c st x done) := by
  set b : Acting := { a with seq := { a.seq with state := st, timer := some c.tab.pointing.phaseTime } } with hb
  have entered : a.Coasts b := aside rfl rfl
  have claimed : a.Coasts (b.claim c .safety (goalFor x (c.tab.guard.get x).stowPos)) := entered.trans (claim _ _ b)
  unfold Acting.enterPhase
  dsimp only
  split
  · exact entered.trans (endSequence _ _ _ b)
  · split
    · exact claimed.trans (hd _)
    · exact claimed

theorem finishStow (a : Acting) : a.Coasts (a.finishStow c) := endSequence _ _ _ a

theorem enterStowMast (a : Acting) : a.Coasts (a.enterStowMast c) := enterPhase _ _ finishStow a

theorem enterStowPan (a : Acting) : a.Coasts (a.enterStowPan c) := enterPhase _ _ enterStowMast a

theorem phaseComplete (a : Acting) : a.Coasts (a.phaseComplete c) := by
  unfold Acting.phaseComplete
  split
  · exact refl a
  · exact enterStowPan a
  · exact enterStowMast a
  · exact finishStow a
  · exact endSequence _ _ _ a

theorem sequencerSeesAxes (old : PerAxis AxisRun) (a : Acting) : a.Coasts (a.sequencerSeesAxes c old) := by
  unfold Acting.sequencerSeesAxes
  split
  · exact ite (phaseComplete a)
  · exact refl a

/-- R91: no hand-off of axis changes commands a rate. -/
theorem handAxes (old : PerAxis AxisRun) (a : Acting) : a.Coasts (a.handAxes c old) :=
  ((searchSeesAxes old a).trans (searchAfter _)).trans (sequencerSeesAxes old _)

end Acting.Coasts

/-- R78: the mast that the guard stops is at rest, after the hand-offs too. -/
theorem Acting.guardMast_vPrev {c : Ctx} {a : Acting} (h : a.axes.mast.vPrev < 0 ∧ c.guardBlocks = true) :
    (a.guardMast c).axes.mast.vPrev = 0 := by
  have hand := Acting.Coasts.handAxes (c := c) a.axes (a.mastHeld c)
  rw [Acting.guardMast_of h]
  refine (hand.vPrev .mast).trans ?_
  rw [Acting.mastHeld_axes]
  exact a.axes.mast.held_vPrev

/-- R77, R78: the guard's immediate zero still waits for port D, or is in transmission, after the hand-offs. -/
theorem Acting.guardMast_sends {c : Ctx} {a : Acting} (h : a.axes.mast.vPrev < 0 ∧ c.guardBlocks = true)
    (hm : c.sen.mode = .operating) (hd : c.tab.ports.d.state ≠ .closed) :
    (a.guardMast c).out.sends (demandFrame c.tab .mast 0) .mast := by
  rw [Acting.guardMast_of h]
  exact Output.sends_of_onlyC (Acting.Coasts.handAxes a.axes _).out (Acting.mastHeld_sends hm hd a)

end Sys2Proof.Machine
end

section
/-! SUPPORT. The drops of a port whose state changes (R152, R164, R166): what they count, what record they leave, and
which frames stay. -/

namespace Sys2Proof.Machine

theorem Counters.bump_portClosed (k : Counters) (reason : DropReason) : (k.bump reason).portClosed =
    if reason = .portClosed then bumpTo Config.counterMax k.portClosed else k.portClosed := by
  cases reason <;> rfl

theorem CEntry.dropAs_reason (t : Tables) (reason : DropReason) (e : CEntry) : (e.dropAs t reason).reason = reason := by
  unfold CEntry.dropAs
  split <;> rfl

theorem CEntry.dropAs_port (t : Tables) (reason : DropReason) (e : CEntry) : (e.dropAs t reason).port = .c := by
  unfold CEntry.dropAs
  split <;> rfl

namespace Output

/-! ### The books: the counters and drop record A -/

/-- The output sides agree on the counters, on drop record A and on the port S queue. -/
structure SameBooks (o o' : Output) : Prop where
  counters : o'.counters = o.counters
  dropA : o'.dropA = o.dropA
  sensorQueue : o'.sensorQueue = o.sensorQueue

variable {o o' : Output}

namespace SameBooks

theorem refl (o : Output) : o.SameBooks o := ⟨rfl, rfl, rfl⟩

theorem trans {o'' : Output} (h₁ : o.SameBooks o') (h₂ : o'.SameBooks o'') : o.SameBooks o'' :=
  ⟨h₂.counters.trans h₁.counters, h₂.dropA.trans h₁.dropA, h₂.sensorQueue.trans h₁.sensorQueue⟩

theorem insertC (urgent : Bool) (e : CEntry) (o : Output) : o.SameBooks (o.insertC urgent e).1 := by
  unfold Output.insertC
  repeat' split
  all_goals exact ⟨rfl, rfl, rfl⟩

theorem transmitC (t : Tables) (v : List Word) (e : CEntry) (o : Output) : o.SameBooks (o.transmitC t v e) := by
  unfold Output.transmitC
  split <;> exact ⟨rfl, rfl, rfl⟩

theorem startIfIdleC (t : Tables) (v : List Word) (o : Output) : o.SameBooks (o.startIfIdle t v .c) := by
  unfold Output.startIfIdle
  split
  · simp only [Output.takeNext]
    split
    next e rest _ => exact trans (o' := { o with urgent := rest }) ⟨rfl, rfl, rfl⟩ (transmitC t v e _)
    next e rest _ _ => exact trans (o' := { o with routine := rest }) ⟨rfl, rfl, rfl⟩ (transmitC t v e _)
    · exact refl o
  · exact refl o

theorem startIfIdleD (t : Tables) (v : List Word) (o : Output) : o.SameBooks (o.startIfIdle t v .d) := by
  unfold Output.startIfIdle
  split
  · simp only [Output.takeNext]
    split
    · exact ⟨rfl, rfl, rfl⟩
    · exact refl o
  · exact refl o

/-- R176: a DEMAND that is placed at a port D not CLOSED is no drop. -/
theorem sendDemand {t : Tables} (hd : t.ports.d.state ≠ .closed) (v : List Word) (x : Axis) (rate : Int) (o : Output) :
    o.SameBooks (o.sendDemand t v x rate) := by
  unfold Output.sendDemand
  dsimp only
  rw [if_neg hd]
  exact trans (o' := { o with driveQueue := insertDemand x (demandFrame t x rate) o.driveQueue }) ⟨rfl, rfl, rfl⟩
    (startIfIdleD t v _)

end SameBooks

/-! ### One drop -/

theorem noteDrop_counters (d : DropRecord) (o : Output) :
    (o.noteDrop d).counters = o.counters.set d.port ((o.counters.get d.port).bump d.reason) := by
  unfold noteDrop
  dsimp only
  repeat' split
  all_goals rfl

theorem noteDrop_dropA (d : DropRecord) (o : Output) : (o.noteDrop d).dropA = o.dropA.or (some d) := by
  unfold noteDrop
  cases o.dropA with
  | none => simp
  | some e => cases o.dropB <;> simp

/-- R164: a drop for another reason leaves the PORT_CLOSED counters. -/
theorem noteDrop_portClosed_of_ne {d : DropRecord} (h : d.reason ≠ .portClosed) (k : Port) (o : Output) :
    ((o.noteDrop d).counters.get k).portClosed = (o.counters.get k).portClosed := by
  rw [noteDrop_counters]
  by_cases hk : k = d.port
  · rw [hk, PerPort.get_set_self, Counters.bump_portClosed, if_neg h]
  · rw [PerPort.get_set_of_ne _ hk]

theorem noteDrop_portClosed {d : DropRecord} (h : d.reason = .portClosed) (o : Output) :
    ((o.noteDrop d).counters.get d.port).portClosed = bumpTo Config.counterMax (o.counters.get d.port).portClosed := by
  rw [noteDrop_counters, PerPort.get_set_self, Counters.bump_portClosed, if_pos h]

theorem placeQuiet_portClosed (t : Tables) (v : List Word) (urgent : Bool) (e : CEntry) (k : Port) (o : Output) :
    ((o.placeQuiet t v urgent e).counters.get k).portClosed = (o.counters.get k).portClosed := by
  have placed := (SameBooks.insertC urgent e o).trans (.startIfIdleC t v _)
  unfold placeQuiet
  dsimp only
  split
  next lost _ =>
    rw [noteDrop_portClosed_of_ne (by rw [CEntry.dropAs_reason]; decide), placed.counters]
  · rw [placed.counters]

theorem placeQuiet_dropA (t : Tables) (v : List Word) (urgent : Bool) (e : CEntry) {o : Output} {d : DropRecord}
    (h : o.dropA = some d) : (o.placeQuiet t v urgent e).dropA = some d := by
  have placed := (SameBooks.insertC urgent e o).trans (.startIfIdleC t v _)
  unfold placeQuiet
  dsimp only
  split
  · rw [noteDrop_dropA, placed.dropA, h]
    rfl
  · rw [placed.dropA, h]

theorem drop_portClosed {d : DropRecord} (h : d.reason = .portClosed) (t : Tables) (v : List Word) (o : Output) :
    ((o.drop t v d).counters.get d.port).portClosed = bumpTo Config.counterMax (o.counters.get d.port).portClosed := by
  unfold drop
  dsimp only
  split
  · split
    · rw [placeQuiet_portClosed]
      exact noteDrop_portClosed h o
    · exact noteDrop_portClosed h o
  · exact noteDrop_portClosed h o

theorem drop_dropA (t : Tables) (v : List Word) (d : DropRecord) (o : Output) :
    (o.drop t v d).dropA = o.dropA.or (some d) := by
  unfold drop
  dsimp only
  split
  next h =>
    have hn : o.dropA = none := Option.isNone_iff_eq_none.1 h
    have noted : ((o.noteDrop d).see .dropRecorded).dropA = some d := by
      rw [see_dropA, noteDrop_dropA, hn]
      rfl
    rw [hn]
    split
    · exact placeQuiet_dropA _ _ _ _ noted
    · exact noted
  · exact noteDrop_dropA d o

/-! ### Several drops -/

theorem dropAll_cons (t : Tables) (v : List Word) (d : DropRecord) (ds : List DropRecord) (o : Output) :
    o.dropAll t v (d :: ds) = (o.drop t v d).dropAll t v ds := rfl

/-- R164: each drop as PORT_CLOSED is counted on its port. -/
theorem dropAll_portClosed {k : Port} {ds : List DropRecord} (h : ∀ d ∈ ds, d.port = k ∧ d.reason = .portClosed)
    (t : Tables) (v : List Word) (o : Output) : ((o.dropAll t v ds).counters.get k).portClosed =
      (bumpTo Config.counterMax)^[ds.length] (o.counters.get k).portClosed := by
  induction ds generalizing o with
  | nil => rfl
  | cons d ds ih =>
    obtain ⟨rfl, hr⟩ := h d List.mem_cons_self
    rw [dropAll_cons, ih fun e he => h e (List.mem_cons_of_mem _ he), drop_portClosed hr]
    rfl

/-- R166: the first drop fills record A if it is empty. -/
theorem dropAll_dropA (t : Tables) (v : List Word) (ds : List DropRecord) (o : Output) :
    (o.dropAll t v ds).dropA = o.dropA.or ds.head? := by
  induction ds generalizing o with
  | nil => exact Option.or_none.symm
  | cons d ds ih =>
    rw [dropAll_cons, ih, drop_dropA, Option.or_assoc]
    rfl

/-! ### Frames of the part's own -/

/-- Every frame that waits for port C is the part's own. -/
def OwnOnly (o : Output) : Prop := ∀ e ∈ o.urgent ++ o.routine, e.origin = .own

theorem OwnOnly.of_subset (h : o.OwnOnly) (hs : o'.urgent ++ o'.routine ⊆ o.urgent ++ o.routine) : o'.OwnOnly :=
  fun e he => h e (hs he)

theorem OwnOnly.congr (h : o.OwnOnly) (hu : o'.urgent = o.urgent) (hr : o'.routine = o.routine) : o'.OwnOnly := by
  unfold OwnOnly
  rw [hu, hr]
  exact h

theorem OwnOnly.noteDrop (d : DropRecord) (h : o.OwnOnly) : (o.noteDrop d).OwnOnly := by
  unfold Output.noteDrop
  dsimp only
  repeat' split
  all_goals exact h

theorem OwnOnly.insertC (urgent : Bool) {e : CEntry} (he : e.origin = .own) (h : o.OwnOnly) :
    (o.insertC urgent e).1.OwnOnly := by
  have placed : ∀ (rs : List CEntry), rs ⊆ o.routine → ∀ x ∈ (o.urgent ++ [e]) ++ rs, x.origin = .own := by
    intro rs hrs x hx
    simp only [List.mem_append, List.mem_singleton] at hx
    rcases hx with (hu | rfl) | hr
    · exact h x (List.mem_append_left _ hu)
    · exact he
    · exact h x (List.mem_append_right _ (hrs hr))
  unfold Output.insertC
  split
  · split
    · exact placed _ (List.Subset.refl _)
    · intro x hx
      simp only [List.mem_append, List.mem_singleton] at hx
      rcases hx with hu | hr | rfl
      · exact h x (List.mem_append_left _ hu)
      · exact h x (List.mem_append_right _ hr)
      · exact he
  · split
    · split
      · exact placed _ (List.dropLast_subset _)
      · exact h
    · exact h

theorem OwnOnly.transmitC (t : Tables) (v : List Word) (e : CEntry) (h : o.OwnOnly) : (o.transmitC t v e).OwnOnly := by
  unfold Output.transmitC
  split <;> exact h

theorem OwnOnly.startIfIdle (t : Tables) (v : List Word) (h : o.OwnOnly) : (o.startIfIdle t v .c).OwnOnly := by
  unfold Output.startIfIdle
  split
  · simp only [Output.takeNext]
    split
    next e rest hu =>
      refine OwnOnly.transmitC t v e (h.of_subset fun x hx => ?_)
      rw [hu]
      exact List.mem_cons_of_mem _ hx
    next e rest hu hr =>
      refine OwnOnly.transmitC t v e (h.of_subset fun x hx => ?_)
      rw [hr]
      exact (List.mem_append.1 hx).elim (List.mem_append_left _)
        fun m => List.mem_append_right _ (List.mem_cons_of_mem _ m)
    · exact h
  · exact h

theorem OwnOnly.drop (t : Tables) (v : List Word) (d : DropRecord) (h : o.OwnOnly) : (o.drop t v d).OwnOnly := by
  have noted : ((o.noteDrop d).see .dropRecorded).OwnOnly := h.noteDrop d
  unfold Output.drop
  dsimp only
  split
  · split
    · have placed : (((o.noteDrop d).see .dropRecorded).insertC true
          ⟨.own, .frame (eventFrame t .dropRecorded (dropWords (some d)))⟩).1.OwnOnly := noted.insertC true rfl
      unfold Output.placeQuiet
      dsimp only
      split
      · exact (placed.startIfIdle t v).noteDrop _
      · exact placed.startIfIdle t v
    · exact noted
  · exact h.noteDrop d

theorem OwnOnly.dropAll (t : Tables) (v : List Word) (ds : List DropRecord) (h : o.OwnOnly) :
    (o.dropAll t v ds).OwnOnly := by
  induction ds generalizing o with
  | nil => exact h
  | cons d ds ih => exact ih (h.drop t v d)

/-! ### The frames judged anew (R152) -/

/-- R152: the drops of a port that goes into LISTEN or CLOSED, in the order of sending. -/
def leaving (t : Tables) (st : PortState) (o : Output) : Port → List DropRecord
  | .c => ((o.urgent ++ o.routine).filter fun e => !decide (e.origin = .own)).map (CEntry.dropAs t .portClosed)
  | .s => o.sensorQueue.map (dropOf .portClosed .s)
  | .d => (o.driveQueue.filter fun d => d.isData || decide (st = .closed)).map fun d => dropOf .portClosed .d d.frame

/-- R152: the output side without the frames that leave. -/
def staying (st : PortState) (o : Output) : Port → Output
  | .c => { o with
      urgent := o.urgent.filter fun e => decide (e.origin = .own)
      routine := o.routine.filter fun e => decide (e.origin = .own) }
  | .s => { o with sensorQueue := [] }
  | .d => { o with driveQueue := o.driveQueue.filter fun d => !d.isData && decide (st ≠ .closed) }

theorem judgeWaiting_eq {k : Port} {st : PortState} (ho : st ≠ .opened) (hc : ¬(k = .c ∧ st = .closed)) (t : Tables)
    (v : List Word) (o : Output) :
    o.judgeWaiting t v k st = (o.staying st k).dropAll t v (o.leaving t st k) := by
  cases st
  case opened => exact absurd rfl ho
  case listen =>
    cases k
    case c => simp [judgeWaiting, staying, leaving]
    case s => rfl
    case d => simp [judgeWaiting, staying, leaving]
  case closed =>
    cases k
    case c => exact absurd ⟨rfl, rfl⟩ hc
    case s => rfl
    case d => simp [judgeWaiting, staying, leaving]

theorem leaving_closed (t : Tables) (st : PortState) (o : Output) (k : Port) :
    ∀ d ∈ o.leaving t st k, d.port = k ∧ d.reason = .portClosed := by
  intro d hd
  cases k
  all_goals
    obtain ⟨e, _, rfl⟩ := List.mem_map.1 hd
  case c => exact ⟨e.dropAs_port _ _, e.dropAs_reason _ _⟩
  all_goals exact ⟨rfl, rfl⟩

theorem staying_counters (st : PortState) (o : Output) (k : Port) : (o.staying st k).counters = o.counters := by
  cases k <;> rfl

theorem staying_dropA (st : PortState) (o : Output) (k : Port) : (o.staying st k).dropA = o.dropA := by
  cases k <;> rfl

theorem staying_sensorQueue {k : Port} (h : k ≠ .s) (st : PortState) (o : Output) :
    (o.staying st k).sensorQueue = o.sensorQueue := by
  cases k
  case s => exact absurd rfl h
  all_goals rfl

theorem staying_driveQueue {k : Port} (h : k ≠ .d) (st : PortState) (o : Output) :
    (o.staying st k).driveQueue = o.driveQueue := by
  cases k
  case d => exact absurd rfl h
  all_goals rfl

theorem staying_ownOnly (st : PortState) (o : Output) : (o.staying st .c).OwnOnly := by
  intro e he
  simp only [staying, List.mem_append, List.mem_filter, decide_eq_true_eq] at he
  exact he.elim And.right And.right

end Output

/-! ### Port D reopens (R152) -/

namespace Acting

/-- R91: a change of axis records that changes no state requests no STATUS. -/
theorem shift_out_of_state {c : Ctx} {rate : Axis → Option Int} {f : Axis → AxisRun → AxisRun} {a : Acting}
    (h : ∀ x, (f x (a.axes.get x)).state = (a.axes.get x).state) :
    ∃ b : Acting, b.out = a.out ∧ (a.shift c rate f).out = (b.sendDemands c rate).out := by
  have hm := h .mast
  have hp := h .pan
  have ht := h .tilt
  simp only [PerAxis.get_mast, PerAxis.get_pan, PerAxis.get_tilt] at hm hp ht
  refine ⟨{ a.setAxes c ⟨f .mast a.axes.mast, f .pan a.axes.pan, f .tilt a.axes.tilt⟩ with
    pointing := a.pointing.watch ⟨f .mast a.axes.mast, f .pan a.axes.pan, f .tilt a.axes.tilt⟩ },
    setAxes_out c _ a, ?_⟩
  unfold shift
  simp [reportAxes, axisList, hm, hp, ht]

theorem sendOne_books {c : Ctx} (hd : c.tab.ports.d.state ≠ .closed) (rate : Axis → Option Int) (x : Axis) (a : Acting) :
    a.out.SameBooks (a.sendOne c rate x).out := by
  unfold sendOne
  split
  · exact .sendDemand hd _ _ _ _
  · exact .refl _

/-- R77, R176: the immediate zeros at an open port D are no drops. -/
theorem zeroed_books {c : Ctx} (hd : c.tab.ports.d.state ≠ .closed) (rate : Axis → Option Int) (a : Acting) :
    a.out.SameBooks (a.shift c rate fun _ r => r.zeroed).out := by
  obtain ⟨b, hb, hs⟩ := shift_out_of_state (c := c) (rate := rate) (f := fun _ r => r.zeroed) (a := a) fun _ => rfl
  rw [hs, ← hb, sendDemands_eq]
  exact ((sendOne_books hd rate .mast b).trans (sendOne_books hd rate .pan _)).trans (sendOne_books hd rate .tilt _)

end Acting

end Sys2Proof.Machine
end

section
/-! PROOFS. O53: the writes of the tables that act on more than their entry (R14, R21, R63, R78, R97, R152). -/

namespace Sys2Proof.Machine

/-! ### A record gone STALE -/

/-- R43, R48: an evaluation leaves every record as it was, LINES among them. -/
theorem Part.evaluate_image (concerned : Group → Bool) (p : Part) :
    (p.evaluate concerned).sen.image = p.sen.image :=
  Part.evaluate_keeps (P := fun q => q.sen.image = p.sen.image)
    (fun _ _ h => Part.formPermit_keeps (P := fun q => q.sen.image = p.sen.image) (fun _ hq => hq)
      (fun _ _ _ hq => hq) h)
    (fun _ _ _ h => h) concerned rfl

theorem Part.wentStale_image (q : Fin 24) (p : Part) : (p.wentStale q).sen.image = p.sen.image := by
  rw [Part.wentStale_eq]
  exact Part.evaluate_image _ p.formLines

theorem Part.wentStale_tab (q : Fin 24) (p : Part) : (p.wentStale q).tab = p.tab := by
  rw [Part.wentStale_eq]
  exact (Part.told_sense q p).tab

/-- R63, R85, R169: what a change of the drive node does at the axis. -/
theorem Acting.newDrive_eq (c : Ctx) (x : Axis) (a : Acting) : a.newDrive c x = { a with
    axes := a.axes.set x { a.axes.get x with
      drive := .notReady
      driveAge := if c.sen.mode = .operating then .running (c.tab.guard.get x).ageTime else (a.axes.get x).driveAge }
    out := { a.out with driveQueue := a.out.driveQueue.filter fun d => !d.isDemandOf x } } := by
  simp only [Acting.newDrive, Ctx.operating_iff]
  rfl

namespace Part

variable {p : Part} {fs : List Word}

/-! ### QUANTITY -/

theorem rangeChanged_shut {q : Fin 24} {r : QuantityEntry}
    (h : (p.sen.image[q]).state = .fresh ∧ ¬(r.lo ≤ (p.sen.image[q]).value ∧ (p.sen.image[q]).value ≤ r.hi)) :
    p.rangeChanged q r = ({ p with sen := p.sen.setQuantity q (p.sen.image[q]).goStale } : Part).wentStale q :=
  if_pos h

theorem rangeChanged_kept {q : Fin 24} {r : QuantityEntry}
    (h : ¬((p.sen.image[q]).state = .fresh ∧ ¬(r.lo ≤ (p.sen.image[q]).value ∧ (p.sen.image[q]).value ≤ r.hi))) :
    p.rangeChanged q r = p := if_neg h

theorem rangeChanged_tab (q : Fin 24) (r : QuantityEntry) : (p.rangeChanged q r).tab = p.tab := by
  by_cases h : (p.sen.image[q]).state = .fresh ∧ ¬(r.lo ≤ (p.sen.image[q]).value ∧ (p.sen.image[q]).value ≤ r.hi)
  · rw [rangeChanged_shut h, wentStale_tab]
  · rw [rangeChanged_kept h]

theorem rangeChanged_image_of_ne {q k : Fin 24} (hk : k ≠ q) (r : QuantityEntry) :
    (p.rangeChanged q r).sen.image[k] = p.sen.image[k] := by
  by_cases h : (p.sen.image[q]).state = .fresh ∧ ¬(r.lo ≤ (p.sen.image[q]).value ∧ (p.sen.image[q]).value ≤ r.hi)
  · rw [rangeChanged_shut h, wentStale_image]
    exact Sensed.setQuantity_of_ne p.sen hk _
  · rw [rangeChanged_kept h]

/-- R14: the record of the quantity whose entry is written. -/
theorem rangeChanged_image_self (q : Fin 24) (r : QuantityEntry) : (p.rangeChanged q r).sen.image[q] =
    if (p.sen.image[q]).state = .fresh ∧ ¬(r.lo ≤ (p.sen.image[q]).value ∧ (p.sen.image[q]).value ≤ r.hi) then
      (p.sen.image[q]).goStale
    else p.sen.image[q] := by
  split
  next h =>
    rw [rangeChanged_shut h, wentStale_image]
    exact Sensed.setQuantity_self p.sen q _
  next h => rw [rangeChanged_kept h]

theorem writeQuantity_done {q : Fin 24} {r : QuantityEntry} (hq : q ≠ 11) (hr : readQuantity fs = some r)
    (hs : r.source ≠ p.tab.own) (hl : r.holdsLimits p.tab q = true) : p.writeQuantity q.val fs =
      ((p.tabled fun t => { t with quantities := t.quantities.set q r }).rangeChanged q r, .done) := by
  rw [writeQuantity_at hq, hr]
  exact if_neg (not_or.2 ⟨hs, by rw [hl]; decide⟩)

/-! ### AXIS_GUARD, POINTING, LINE -/

theorem not_driveClashes {t : Tables} {x : Axis} {r : GuardRecord} (hown : r.drive ≠ t.own)
    (hy : ∀ y, y ≠ x → (t.guard.get y).drive ≠ r.drive) : ¬driveClashes t x r = true := by
  rw [driveClashes_iff]
  rintro (h | ⟨y, hyx, h⟩)
  · exact hown h
  · exact hy y hyx h

theorem writeGuard_done {x : Axis} {r : GuardRecord}
    (hst : (p.act.axes.get x).state = .stopped ∨ (p.act.axes.get x).state = .fault) (hr : readGuard fs = some r)
    (hcl : ¬driveClashes p.tab x r = true) : p.writeGuard (axisCode x) fs =
      (if r.drive = (p.tab.guard.get x).drive then p.tabled fun t => { t with guard := t.guard.set x r }
       else (p.tabled fun t => { t with guard := t.guard.set x r }).acting fun c a => a.newDrive c x, .done) := by
  rw [writeGuard_at x, if_pos (AxisState.writable_iff.2 hst), hr]
  exact if_neg hcl

/-- R62: a write that keeps the drive node changes the entry alone. -/
theorem writeGuard_same {x : Axis} {r : GuardRecord}
    (hst : (p.act.axes.get x).state = .stopped ∨ (p.act.axes.get x).state = .fault) (hr : readGuard fs = some r)
    (hcl : ¬driveClashes p.tab x r = true) (hd : r.drive = (p.tab.guard.get x).drive) :
    p.writeGuard (axisCode x) fs = ({ p with tab := { p.tab with guard := p.tab.guard.set x r } }, .done) := by
  rw [writeGuard_done hst hr hcl, if_pos hd]
  rfl

/-- R63, R85, R169: a write that changes the drive node. -/
theorem writeGuard_new {x : Axis} {r : GuardRecord}
    (hst : (p.act.axes.get x).state = .stopped ∨ (p.act.axes.get x).state = .fault) (hr : readGuard fs = some r)
    (hcl : ¬driveClashes p.tab x r = true) (hd : r.drive ≠ (p.tab.guard.get x).drive) :
    p.writeGuard (axisCode x) fs = ({ p with
      tab := { p.tab with guard := p.tab.guard.set x r }
      act := { p.act with
        axes := p.act.axes.set x { p.act.axes.get x with
          drive := .notReady
          driveAge := if p.sen.mode = .operating then .running (r.ageLimit * 10000)
            else (p.act.axes.get x).driveAge }
        out := { p.act.out with driveQueue := p.act.out.driveQueue.filter fun d => !d.isDemandOf x } } }, .done) := by
  rw [writeGuard_done hst hr hcl, if_neg hd]
  simp only [acting, Acting.newDrive_eq, ctx_tab, ctx_sen, tabled_tab, tabled_sen, tabled_act, PerAxis.get_set_self]
  rfl

theorem writePointing_done {r : PointingRecord} (hr : readPointing fs = some r) : p.writePointing 0 fs =
    ((p.tabled fun t => { t with pointing := r }).acting Acting.guardMast, .done) := by
  rw [writePointing_zero, hr]
  rfl

theorem writeLine_done {k : Fin 8} {r : LineRecord} (hk : k ≠ 0) (hr : readLine fs = some r) : p.writeLine k.val fs =
    ({ p with
        tab := { p.tab with lines := p.tab.lines.set k r }
        sen := { p.sen with
          filters := p.sen.filters.set k
            (rewrittenFilter (p.tab.line k) r (p.sen.pins.getLsbD k.val) p.sen.filters[k]) } }, .done) := by
  rw [writeLine_at hk, hr]
  rfl

/-! ### PORT -/

theorem writePort_done {k : Port} {r : PortRecord} (hr : readPort fs = some r) (hc : ¬(k = .c ∧ r.state = .closed))
    (hu : ¬(k = .d ∧ r.state = .closed ∧ p.sen.mode = .operating)) : p.writePort (portCode k) fs =
      ((p.tabled fun t => { t with ports := t.ports.set k r }).portChanged k (p.tab.ports.get k).state, .done) := by
  rw [writePort_at k, hr, Option.elim_some, if_neg hc, if_neg hu]

end Part

/-- R21: the filter state of a line whose function is, or is not, that of an input. -/
theorem rewrittenFilter_output {old new : LineRecord} (h : isInputFunction new.function = false) (pin : Bool)
    (f : Option LineFilter) : rewrittenFilter old new pin f = none := if_pos (by rw [h]; rfl)

theorem rewrittenFilter_fresh {old new : LineRecord} (h : isInputFunction new.function = true)
    (ho : isInputFunction old.function = false) (pin : Bool) (f : Option LineFilter) :
    rewrittenFilter old new pin f = some { level := xor pin new.invert, run := 0 } := by
  unfold rewrittenFilter
  rw [h, ho]
  rfl

theorem rewrittenFilter_kept {old new : LineRecord} (h : isInputFunction new.function = true)
    (ho : isInputFunction old.function = true) (pin : Bool) (g : LineFilter) :
    rewrittenFilter old new pin (some g) = some { level := xor g.level (xor old.invert new.invert), run := 0 } := by
  unfold rewrittenFilter
  rw [h, ho]
  rfl

/-! ### A port whose state changes -/

namespace Part

variable {p : Part} {k : Port} {old : PortState}

/-- R152: the acting side when the frames that wait are judged anew. -/
def judged (k : Port) (p : Part) : Acting :=
  p.act.emit p.ctx fun t v o => o.judgeWaiting t v k (p.tab.ports.get k).state

theorem portChanged_same (h : (p.tab.ports.get k).state = old) : p.portChanged k old = p := if_pos h

theorem portChanged_judged (h : (p.tab.ports.get k).state ≠ old)
    (hr : ¬(k = .d ∧ old = .closed ∧ p.sen.mode = .operating)) :
    p.portChanged k old = { p with act := p.judged k } := by
  unfold portChanged
  dsimp only
  rw [if_neg h, if_neg fun hc => hr ⟨hc.1, hc.2.1, Ctx.operating_iff.1 hc.2.2⟩]
  rfl

theorem portChanged_reopens (h : (p.tab.ports.get k).state ≠ old)
    (hr : k = .d ∧ old = .closed ∧ p.sen.mode = .operating) : p.portChanged k old =
      { p with act := (p.judged k).shift p.ctx (fun _ => some 0) fun _ r => r.zeroed } := by
  have zeros : immediateZeros p.ctx everyAxis = fun _ => some 0 := by
    have operating : p.ctx.operating = true := Ctx.operating_iff.2 hr.2.2
    funext x
    simp [immediateZeros, everyAxis, operating]
  unfold portChanged
  dsimp only
  rw [if_neg h, if_pos ⟨hr.1, hr.2.1, Ctx.operating_iff.2 hr.2.2⟩]
  unfold Part.acting Acting.reopenDrives
  rw [← zeros]
  rfl

end Part

/-- R152, R164, R166: what an output side shows of the drops at port `k`: each is counted, the first fills record A if
it was empty, and the queues of the other ports are as they were. -/
structure Output.Dropped (k : Port) (went : List DropRecord) (o o' : Output) : Prop where
  closed : (o'.counters.get k).portClosed = (bumpTo Config.counterMax)^[went.length] (o.counters.get k).portClosed
  dropA : o'.dropA = o.dropA.or went.head?
  sensorQueue : k ≠ .s → o'.sensorQueue = o.sensorQueue
  driveQueue : k ≠ .d → o'.driveQueue = o.driveQueue

namespace Output

variable {o o' o'' : Output} {k : Port} {went : List DropRecord}

theorem Dropped.none (k : Port) (o : Output) : Dropped k [] o o :=
  ⟨rfl, Option.or_none.symm, fun _ => rfl, fun _ => rfl⟩

theorem Dropped.judged (t : Tables) (v : List Word) (st : PortState) (k : Port) (o : Output) :
    Dropped k (o.leaving t st k) o ((o.staying st k).dropAll t v (o.leaving t st k)) where
  closed := by rw [dropAll_portClosed (leaving_closed t st o k), staying_counters]
  dropA := by rw [dropAll_dropA, staying_dropA]
  sensorQueue hk := (OnlyC.dropAll t v _ _).sensorQueue.trans (staying_sensorQueue hk st o)
  driveQueue hk := (OnlyC.dropAll t v _ _).driveQueue.trans (staying_driveQueue hk st o)

/-- At port D the zeros of R152 are no drops. -/
theorem Dropped.reopened (h : Dropped .d went o o') (hb : o'.SameBooks o'') : Dropped .d went o o'' :=
  ⟨by rw [hb.counters, h.closed], hb.dropA.trans h.dropA, fun hk => hb.sensorQueue.trans (h.sensorQueue hk),
    fun hk => absurd rfl hk⟩

/-! R152: the frames that a port in LISTEN or CLOSED keeps. -/

theorem dropAll_stayingS (t : Tables) (v : List Word) (st : PortState) (ds : List DropRecord) (o : Output) :
    ((o.staying st .s).dropAll t v ds).sensorQueue = [] := (OnlyC.dropAll t v ds _).sensorQueue

theorem dropAll_closedD (t : Tables) (v : List Word) (ds : List DropRecord) (o : Output) :
    ((o.staying .closed .d).dropAll t v ds).driveQueue = [] :=
  (OnlyC.dropAll t v ds _).driveQueue.trans (by simp [staying])

theorem dropAll_listenD (t : Tables) (v : List Word) (ds : List DropRecord) (o : Output) :
    ((o.staying .listen .d).dropAll t v ds).driveQueue = o.driveQueue.filter (fun d => !d.isData) :=
  (OnlyC.dropAll t v ds _).driveQueue.trans (by simp [staying])

end Output

/-- R152: nothing that waits is judged anew at a port that opens. -/
theorem Part.judged_opened {p : Part} {k : Port} (h : (p.tab.ports.get k).state = .opened) : p.judged k = p.act := by
  unfold Part.judged Acting.emit
  rw [h]
  rfl

theorem Part.judged_eq {p : Part} {k : Port} (ho : (p.tab.ports.get k).state ≠ .opened)
    (hc : ¬(k = .c ∧ (p.tab.ports.get k).state = .closed)) : p.judged k = { p.act with
      out := (p.act.out.staying (p.tab.ports.get k).state k).dropAll p.tab (statusWords p.ctx p.act)
        (p.act.out.leaving p.tab (p.tab.ports.get k).state k) } := by
  unfold Part.judged Acting.emit
  dsimp only
  rw [Output.judgeWaiting_eq ho hc]
  rfl

/-- R152: the drops of a port that was in `was` and is now in `st`. -/
def Output.goes (t : Tables) (st was : PortState) (o : Output) (k : Port) : List DropRecord :=
  if st = .opened ∨ st = was then [] else o.leaving t st k

/-- R152: the output side without the frames that the change of state removes. -/
def Output.remains (st was : PortState) (o : Output) (k : Port) : Output :=
  if st = .opened ∨ st = was then o else o.staying st k

/-- R152: the acting side after the drops of a port that was in `was`. -/
def Part.dropped (was : PortState) (k : Port) (p : Part) : Acting :=
  { p.act with
    out := (p.act.out.remains (p.tab.ports.get k).state was k).dropAll p.tab (statusWords p.ctx p.act)
      (p.act.out.goes p.tab (p.tab.ports.get k).state was k) }

namespace Part

variable {p : Part} {k : Port} {was : PortState}

theorem dropped_quiet (h : (p.tab.ports.get k).state = .opened ∨ (p.tab.ports.get k).state = was) :
    p.dropped was k = p.act := by
  unfold dropped Output.goes Output.remains
  rw [if_pos h, if_pos h]
  rfl

theorem dropped_changed (h : ¬((p.tab.ports.get k).state = .opened ∨ (p.tab.ports.get k).state = was)) :
    (p.dropped was k).out = (p.act.out.staying (p.tab.ports.get k).state k).dropAll p.tab (statusWords p.ctx p.act)
      (p.act.out.leaving p.tab (p.tab.ports.get k).state k) := by
  unfold dropped Output.goes Output.remains
  rw [if_neg h, if_neg h]

theorem dropped_dropped (was : PortState) (k : Port) (p : Part) :
    Output.Dropped k (p.act.out.goes p.tab (p.tab.ports.get k).state was k) p.act.out (p.dropped was k).out := by
  by_cases h : (p.tab.ports.get k).state = .opened ∨ (p.tab.ports.get k).state = was
  · rw [dropped_quiet h]
    unfold Output.goes
    rw [if_pos h]
    exact .none k p.act.out
  · rw [dropped_changed h]
    unfold Output.goes
    rw [if_neg h]
    exact .judged _ _ _ k p.act.out

/-- R152: a change of state judges the waiting frames by these drops. -/
theorem judged_eq_dropped (hs : (p.tab.ports.get k).state ≠ was)
    (hc : ¬(k = .c ∧ (p.tab.ports.get k).state = .closed)) : p.judged k = p.dropped was k := by
  by_cases ho : (p.tab.ports.get k).state = .opened
  · rw [judged_opened ho, dropped_quiet (.inl ho)]
  · rw [judged_eq ho hc]
    unfold dropped Output.goes Output.remains
    rw [if_neg (not_or.2 ⟨ho, hs⟩), if_neg (not_or.2 ⟨ho, hs⟩)]

end Part

end Sys2Proof.Machine
end

section
/-! PROOFS. O53: the writes of the tables that act on more than their entry (R14, R21, R63, R78, R97, R152). -/

namespace Sys2Proof.Machine

/-- Settles O53, table by table. At PORT the drops of the change (`Part.dropped`) come first; then port D, if it
reopens, sends its zeros, which are no drops. -/
theorem tableWritesActOnChange : Obligations.TableWritesActOnChange := by
  intro s h i fs e
  have zero : i = 0 → i.toInt = 0 := toInt_eq_zero.2
  refine ⟨fun q r hc hi hq hr hs hl => ?_, fun x r hc hx hst hr hown hy => ?_, fun r hc hi hr => ?_,
    fun pins k r hc hi hk hr => ?_, fun k r hc hk hr => ?_⟩
  · set p0 : Part := { e with tab := { s.part.tab with quantities := s.part.tab.quantities.set q r } } with hp0
    have run : exec (.tableWriteQuantity h i fs) s = .next (s.answered h .tableWrite .done (p0.rangeChanged q r)) :=
      exec_tableWrite_eq rfl hc ((congrArg (e.writeQuantity · fs) hi).trans
        (Part.writeQuantity_done (p := e) hq hr hs hl))
    exact ⟨p0.rangeChanged q r, run, Part.rangeChanged_tab q r, fun k hk => Part.rangeChanged_image_of_ne hk r,
      Part.rangeChanged_image_self q r, fun hs => Part.rangeChanged_kept (p := p0) hs,
      fun hs => Part.rangeChanged_shut (p := p0) hs⟩
  · intro tab old
    have hcl : ¬driveClashes e.tab x r = true := Part.not_driveClashes hown hy
    have at_x := congrArg (e.writeGuard · fs) (axis_codes.read hx)
    exact ⟨fun hd => exec_tableWrite_eq rfl hc (at_x.trans (Part.writeGuard_same hst hr hcl hd)),
      fun hd => exec_tableWrite_eq rfl hc (at_x.trans (Part.writeGuard_new hst hr hcl hd))⟩
  · intro tab blocks
    have guarded : exec (.tableWritePointing h i fs) s = .next (s.answered h .tableWrite .done
        { e with tab := tab, act := e.act.guardMast ⟨tab, e.sen⟩ }) :=
      exec_tableWrite_eq rfl hc ((congrArg (e.writePointing · fs) (zero hi)).trans (Part.writePointing_done hr))
    have blocks_iff : blocks ↔ e.act.axes.mast.vPrev < 0 ∧ (⟨tab, e.sen⟩ : Ctx).guardBlocks = true := by
      rw [Ctx.guardBlocks_iff]
      exact Iff.rfl
    refine ⟨fun hb => ?_, fun hb => ?_⟩
    · rw [guarded, Acting.guardMast_of_not fun h => hb (blocks_iff.2 h)]
    · have hb' := blocks_iff.1 hb
      refine ⟨_, guarded, rfl, ⟨e.act.mastHeld ⟨tab, e.sen⟩, Acting.guardMast_of hb', Acting.mastHeld_eq _ _,
        Acting.mastHeld_axes _ _, Acting.mastHeld_search _ _, Acting.mastHeld_seq _ _⟩, Acting.guardMast_vPrev hb',
        fun hm hd => Acting.guardMast_sends hb' hm hd⟩
  · intro old
    have write := Part.writeLine_done (p := e.seePins pins) (fs := fs) hk hr
    refine ⟨rewrittenFilter (s.part.tab.line k) r (pins.getLsbD k.val) s.part.sen.filters[k],
      exec_tableWrite_eq rfl hc ((congrArg ((e.seePins pins).writeLine · fs) hi).trans write),
      fun hout => rewrittenFilter_output hout _ _, fun hin hold => rewrittenFilter_fresh hin hold _ _,
      fun g hin hold hg => ?_⟩
    rw [hg]
    exact rewrittenFilter_kept hin hold _ g
  · intro tab was
    set p : Part := { e with tab := tab } with hp
    have at_k := congrArg (e.writePort · fs) (port_codes.read hk)
    have now : (tab.ports.get k).state = r.state := congrArg PortRecord.state (PerPort.get_set_self _ k r)
    refine ⟨fun hkc hst => ?_, fun hkd hst hm => ?_, fun hnc hnu => ?_⟩
    · refine exec_tableWrite_eq rfl hc (at_k.trans ?_)
      rw [Part.writePort_at, hr, Option.elim_some, if_pos ⟨hkc, hst⟩]
    · have hnc : ¬(k = .c ∧ r.state = .closed) := by
        rintro ⟨rfl, _⟩
        cases hkd
      refine exec_tableWrite_eq rfl hc (at_k.trans ?_)
      rw [Part.writePort_at, hr, Option.elim_some, if_neg hnc]
      exact if_pos ⟨hkd, hst, hm⟩
    · intro o own went stays judged reopens
      have run : exec (.tableWritePort h i fs) s = .next (s.answered h .tableWrite .done (p.portChanged k was)) :=
        exec_tableWrite_eq rfl hc (at_k.trans (Part.writePort_done hr hnc hnu))
      have hwent : went = o.goes tab r.state was k := by
        simp only [went, Output.goes]
        split
        · rfl
        · cases k <;> rfl
      have hstays : stays = o.remains r.state was k := by
        simp only [stays, Output.remains]
        split
        · rfl
        · cases k <;> rfl
      have hjudged : judged = p.dropped was k := by
        unfold Part.dropped
        simp only [judged]
        rw [hwent, hstays, ← now]
        rfl
      have drops : Output.Dropped k went o judged.out := by
        rw [hjudged, hwent, ← now]
        exact Part.dropped_dropped was k p
      have unchanged : r.state = was → judged = e.act := fun hs =>
        hjudged.trans (Part.dropped_quiet (.inr (now.trans hs)))
      have anew : r.state ≠ was → p.judged k = judged := fun hs =>
        (Part.judged_eq_dropped (now ▸ hs) (now ▸ hnc)).trans hjudged.symm
      by_cases hre : reopens
      · obtain ⟨rfl, hwas, hst, hm⟩ := hre
        have hs : r.state ≠ was := hwas ▸ hst
        have hd : tab.ports.d.state ≠ .closed := now ▸ hst
        have reopened := drops.reopened (Acting.zeroed_books (c := p.ctx) hd (fun _ => some 0) judged)
        refine ⟨judged.shift p.ctx (fun _ => some 0) fun _ r => r.zeroed, ?_, fun h => absurd ⟨rfl, hwas, hst, hm⟩ h,
          fun _ => rfl, reopened.closed, reopened.dropA, reopened.sensorQueue, fun h => absurd rfl h,
          fun h => absurd h hs, fun _ hcl => absurd hcl hst, fun _ hcl => absurd hcl hst,
          fun _ _ h => absurd h (by decide), fun _ _ _ ho => ?_, fun _ _ h => absurd h (by decide),
          fun _ _ _ _ x => ⟨?_, Acting.sends_shift rfl hd _ judged⟩⟩
        · have hs' : (p.tab.ports.get .d).state ≠ was := fun h => hs (now.symm.trans h)
          rw [run, Part.portChanged_reopens hs' ⟨rfl, hwas, hm⟩, anew hs]
        · rw [hwas] at ho
          cases ho
        · rw [Acting.shift_get]
          rfl
      · have kept := fun hs (ho : r.state ≠ .opened) =>
          Part.dropped_changed (p := p) (k := k) (was := was) (by rw [now]; exact not_or.2 ⟨ho, hs⟩)
        refine ⟨judged, ?_, fun _ => rfl, fun h => absurd h hre, drops.closed, drops.dropA, drops.sensorQueue,
          drops.driveQueue, unchanged, ?_, ?_, ?_, ?_, ?_,
          fun hkd hwas hst hm => absurd ⟨hkd, hwas, hst, hm⟩ hre⟩
        · by_cases hs : r.state = was
          · rw [run, Part.portChanged_same (now.trans hs), unchanged hs]
          · have hs' : (p.tab.ports.get k).state ≠ was := fun h => hs (now.symm.trans h)
            have hre' : ¬(k = .d ∧ was = .closed ∧ p.sen.mode = .operating) := fun h =>
              hre ⟨h.1, h.2.1, fun hcl => hs (hcl.trans h.2.1.symm), h.2.2⟩
            rw [run, Part.portChanged_judged hs' hre', anew hs]
        · intro hs hcl hks
          rw [hjudged, kept hs (by rw [hcl]; decide), hks]
          exact Output.dropAll_stayingS _ _ _ _ _
        · intro hs hcl hkd
          rw [hjudged, kept hs (by rw [hcl]; decide), now, hcl, hkd]
          exact Output.dropAll_closedD _ _ _ _
        · intro hs hli hks
          rw [hjudged, kept hs (by rw [hli]; decide), hks]
          exact Output.dropAll_stayingS _ _ _ _ _
        · intro hs hli hkd _
          rw [hjudged, kept hs (by rw [hli]; decide), now, hli, hkd]
          exact Output.dropAll_listenD _ _ _ _
        · intro hs hli hkc
          rw [hjudged, kept hs (by rw [hli]; decide), hkc]
          exact (Output.staying_ownOnly _ _).dropAll _ _ _

end Sys2Proof.Machine
end

section
/-! SUPPORT. A command frame that is taken and answered (R148, R162). -/

namespace Sys2Proof.Machine

/-- R148, R162: a command frame that the part consumes, and that its block takes with a result, is answered with it. -/
theorem exec_answered {c : Instr} {s : State} {h : Header} {k : Kind} {ws : List Word} {q : Part} {r : Result}
    (ha : c.arrival = some (h.port, frameOf h k ws)) (hc : s.part.consumes h k ws) (h1 : k ≠ .sample)
    (h2 : k ≠ .driveStatus) (hq : (c.seenBy (s.entered h)).take (frameOf h k ws) = answer (frameOf h k ws) (q, r)) :
    exec c s = .next (s.answered h k r q) := by
  rw [exec_taken ha hc h1 h2, hq]
  rfl

end Sys2Proof.Machine
end

section
/-! PROOFS. O13: the input filter (R19, R22). -/

namespace Sys2Proof.Machine

namespace LineFilter

variable {ms : Nat} {raw : Bool} {f : LineFilter}

theorem sample_agreeing (h : raw = f.level) : f.sample ms raw = { f with run := 0 } := if_pos h

theorem sample_counting (h : raw ≠ f.level) (hn : f.run + 1 < ms) : f.sample ms raw = { f with run := f.run + 1 } :=
  (if_neg h).trans (if_neg (Nat.not_le.2 hn))

theorem sample_changing (h : raw ≠ f.level) (hn : ms ≤ f.run + 1) : f.sample ms raw = { level := raw, run := 0 } :=
  (if_neg h).trans (if_pos hn)

/-- R22: from a settled filter, fewer disagreeing samples than the filter time are only counted. -/
theorem sample_iterate (h : raw ≠ f.level) (h0 : f.run = 0) (n : Nat) (hn : n < ms) :
    (LineFilter.sample ms raw)^[n] f = { level := f.level, run := n } := by
  induction n with
  | zero =>
    cases f
    cases h0
    rfl
  | succ n ih =>
    rw [Function.iterate_succ_apply', ih (by omega)]
    exact sample_counting (f := { level := f.level, run := n }) h hn

end LineFilter

/-- Settles O13, by induction on the samples that disagree. -/
theorem filterChangesAtItsTime : Obligations.FilterChangesAtItsTime := by
  intro ms raw f
  refine ⟨LineFilter.sample_agreeing, fun h h0 hms => ⟨LineFilter.sample_iterate h h0, ?_⟩, fun h hms => ?_,
    rfl, rfl, rfl, rfl⟩
  · obtain ⟨n, rfl⟩ := Nat.exists_eq_succ_of_ne_zero hms.ne'
    rw [Function.iterate_succ_apply', LineFilter.sample_iterate h h0 n n.lt_succ_self]
    exact LineFilter.sample_changing h le_rfl
  · exact LineFilter.sample_changing h (by omega)

end Sys2Proof.Machine
end

section
/-! PROOFS. O17: the levels and pins of the output lines (R25 to R30). -/

namespace Sys2Proof.Machine

/-- R25: test-on gives 1, test-off alone gives 0, and otherwise the condition stands. -/
theorem Sensed.lampLevel_iff {s : Sensed} {condition : Bool} {P : Prop} (h : condition = true ↔ P) :
    s.lampLevel condition = true ↔ s.testOn = true ∨ (s.testOff = false ∧ P) := by
  unfold Sensed.lampLevel
  cases s.testOn <;> cases s.testOff <;> simp [h]

/-- R27. -/
theorem Ctx.mastLampOn_iff (c : Ctx) : c.mastLampOn = true ↔
    (c.sen.image[(0 : Fin 24)]).state ≠ .fresh
      ∨ c.tab.guard.mast.stowPos + c.tab.guard.mast.stowTol < (c.sen.image[(0 : Fin 24)]).value := by
  simp only [Ctx.mastLampOn, Bool.or_eq_true, Bool.not_eq_true', decide_eq_true_eq]
  exact or_congr_left decide_eq_false_iff_not

theorem AxisState.movesDish_iff (st : AxisState) : st.movesDish = true ↔
    st = .moving ∨ st = .jogging ∨ st = .stopping := by
  cases st <;> decide

/-- R28. -/
theorem beaconOn_iff (a : Acting) : beaconOn a = true ↔
    ∃ x, (a.axes.get x).state = .moving ∨ (a.axes.get x).state = .jogging ∨ (a.axes.get x).state = .stopping := by
  unfold beaconOn
  simp only [List.any_eq_true, AxisState.movesDish_iff]
  exact ⟨fun ⟨x, _, h⟩ => ⟨x, h⟩, fun ⟨x, h⟩ => ⟨x, mem_axisList x, h⟩⟩

/-- R29. -/
theorem Sensed.groupLampOn_iff (s : Sensed) (rule : Nat) : s.groupLampOn rule = true ↔
    ∃ g, s.groupOf rule = some g ∧ g.state ≠ .clear := by
  unfold Sensed.groupLampOn Group.inForce
  cases s.groupOf rule <;> simp

namespace Part

variable {p : Part} {k : Fin 8}

theorem lineLevel_output (h : (p.tab.line k).function = .output) :
    p.lineLevel k = decide ((p.tab.line k).value = 1) := by
  simp only [lineLevel, h]

theorem lineLevel_mastLamp (h : (p.tab.line k).function = .mastLamp) :
    p.lineLevel k = p.sen.lampLevel p.ctx.mastLampOn := by
  simp only [lineLevel, h]

theorem lineLevel_beacon (h : (p.tab.line k).function = .beacon) : p.lineLevel k = p.sen.lampLevel (beaconOn p.act) := by
  simp only [lineLevel, h]

theorem lineLevel_groupLamp (h : (p.tab.line k).function = .groupLamp) :
    p.lineLevel k = p.sen.lampLevel (p.sen.groupLampOn (p.tab.line k).value) := by
  simp only [lineLevel, h]

end Part

/-- Settles O17, function by function. -/
theorem outputLevelsAsStated : Obligations.OutputLevelsAsStated := by
  intro p k
  refine ⟨fun h => ?_, fun h => ?_, fun h => ?_, fun h => ?_, rfl⟩
  · rw [Part.lineLevel_output h]
    exact decide_eq_true_iff
  · rw [Part.lineLevel_mastLamp h]
    exact Sensed.lampLevel_iff (Ctx.mastLampOn_iff p.ctx)
  · rw [Part.lineLevel_beacon h]
    exact Sensed.lampLevel_iff (beaconOn_iff p.act)
  · rw [Part.lineLevel_groupLamp h]
    exact Sensed.lampLevel_iff (Sensed.groupLampOn_iff p.sen _)

end Sys2Proof.Machine
end

section
/-! PROOFS. O16: LAMP_TEST and LINES_SET (R26, R30, R31). -/

namespace Sys2Proof.Machine

/-- R30. -/
theorem Part.lampTest_done {a b : Word} {on off : Bool} (ha : yesNo a = some on) (hb : yesNo b = some off) (p : Part) :
    p.lampTest [a, b] = ({ p with sen := { p.sen with testOn := on, testOff := off } }, .done) := by
  simp only [Part.lampTest, ha, hb]

/-- R31: the line records that a LINES_SET leaves. -/
def Tables.linesUnder (mask values : BitVec 8) (t : Tables) : Vector LineRecord 8 :=
  Vector.ofFn fun k => (t.lines[k]).underSet mask values k

theorem Tables.linesUnder_get (mask values : BitVec 8) (t : Tables) (k : Fin 8) :
    (t.linesUnder mask values)[k] = (t.lines[k]).underSet mask values k := by
  simp [Tables.linesUnder]

theorem Tables.allOutputs_iff (t : Tables) (mask : BitVec 8) : t.allOutputs mask = true ↔
    ∀ k : Fin 8, mask.getLsbD k.val = true → (t.line k).function = .output := by
  simp only [Tables.allOutputs, List.all_eq_true, Bool.or_eq_true, Bool.not_eq_true', decide_eq_true_eq,
    Bool.eq_false_iff, ← imp_iff_not_or]
  exact ⟨fun h k => h k (List.mem_finRange k), fun h k _ => h k⟩

/-- R31. -/
theorem Part.linesSet_taken {m v : Word} {mask values : BitVec 8} (hm : setIn 8 m = some mask)
    (hv : setIn 8 v = some values) (p : Part) : p.linesSet [m, v] =
      ({ p with tab := { p.tab with lines := p.tab.linesUnder mask values } },
        if ∀ k : Fin 8, mask.getLsbD k.val = true → (p.tab.line k).function = .output then .done else .partialDone) := by
  simp only [Part.linesSet, hm, hv, Tables.allOutputs_iff]
  rfl

/-- Settles O16. -/
theorem lampTestAndLinesSetWrite : Obligations.LampTestAndLinesSetWrite := by
  refine ⟨fun s h a b on off hc ha hb => ?_, fun s h m v mask values hc hm hv => ?_⟩
  · exact exec_answered rfl hc (by decide) (by decide)
      (congrArg (answer (frameOf h .lampTest [a, b])) (Part.lampTest_done ha hb (s.entered h)))
  · exact ⟨s.part.tab.linesUnder mask values,
      exec_answered rfl hc (by decide) (by decide)
        (congrArg (answer (frameOf h .linesSet [m, v])) (Part.linesSet_taken hm hv (s.entered h))),
      s.part.tab.linesUnder_get mask values⟩

end Sys2Proof.Machine
end

section
/-! PROOFS. O15: the line set and its arrivals (R23, R28, R48). -/

namespace Sys2Proof.Machine

/-! ### The line set as it is formed -/

theorem Acting.lastLines_eq (c : Ctx) (a : Acting) : a.lastLines c = a.lineWrites.getLast?.getD c.sen.lines :=
  List.getLastD_eq_getLast?

theorem Part.formLines_same {p : Part} (h : p.lineSet = p.act.lastLines p.ctx) : p.formLines = p :=
  congrArg (fun a => { p with act := a }) (if_pos h)

theorem Part.formLines_new {p : Part} (h : p.lineSet ≠ p.act.lastLines p.ctx) :
    p.formLines = { p with act := { p.act with lineWrites := p.act.lineWrites ++ [p.lineSet] } } :=
  congrArg (fun a => { p with act := a }) (if_neg h)

/-! ### Its arrivals -/

theorem Part.followLines_none (n : Nat) {p : Part} (h : p.act.lineWrites = []) : Part.followLines n p = p := by
  cases n with
  | zero => rfl
  | succ n => simp only [Part.followLines, h]

theorem Part.followLines_oldest (n : Nat) {p : Part} {v : Int} {rest : List Int} (h : p.act.lineWrites = v :: rest) :
    Part.followLines (n + 1) p =
      Part.followLines n (Part.takeLines v { p with act := { p.act with lineWrites := rest } }) := by
  simp only [Part.followLines, h]

theorem Part.takeLines_image (v : Int) (p : Part) : (p.takeLines v).sen.image = (p.sen.writeLines v).image :=
  Part.evaluate_image _ { p with sen := p.sen.writeLines v }

theorem Part.takeLines_lines (v : Int) (p : Part) : (p.takeLines v).sen.lines = v := by
  unfold Sensed.lines Sensed.value
  rw [Part.takeLines_image, Sensed.writeLines_self]

/-! ### One change of axis records -/

/-- R28: after a change of axis records wait the line sets that its axes formed; its DEMANDs and STATUS requests
form none. -/
theorem Acting.shift_lineWrites (c : Ctx) (rate : Axis → Option Int) (f : Axis → AxisRun → AxisRun) (a : Acting) :
    (a.shift c rate f).lineWrites =
      (a.setAxes c ⟨f .mast a.axes.mast, f .pan a.axes.pan, f .tilt a.axes.tilt⟩).lineWrites := by
  simp only [Acting.shift, Acting.reportAxes_lineWrites, Acting.sendDemands_lineWrites]

/-- Settles O15. -/
theorem lineSetFollowsLevels : Obligations.LineSetFollowsLevels := by
  refine ⟨fun p => ?_, fun c rate f a => ⟨?_, Acting.shift_lineWrites c rate f a⟩⟩
  · intro last
    have hlast : last = p.act.lastLines p.ctx := (Acting.lastLines_eq p.ctx p.act).symm
    have kept := Part.SameSense.settle p
    rw [hlast]
    exact ⟨Part.formLines_same, Part.formLines_new, Part.settle_of_lines, rfl, fun n => Part.followLines_none n,
      fun n v rest h => ⟨Part.followLines_oldest n h, Part.takeLines_lines v _⟩, fun _ => rfl,
      kept.tab, kept.mode, kept.held, kept.pins, kept.filters, kept.testOn, kept.testOff, kept.meters,
      kept.sampleTimer, kept.refillTimer, kept.image⟩
  · simp only [Acting.shift_axes, Acting.formLines_axes]

end Sys2Proof.Machine
end

section
/-! PROOFS. O12: the sampling instant (R22, R23, R24). -/

namespace Sys2Proof.Machine

/-- R22: INPUT_SAMPLE and FILTERED_LEVEL_CHANGE are the same sampling instant (log 8). -/
theorem exec_inputSample {s : State} (hl : s.part.sen.held = false) (pins : BitVec 8) :
    exec (.inputSample pins) s = .next (s.settled (s.part.sampleLines pins)) := State.run_live hl _

theorem exec_filteredLevelChange {s : State} (hl : s.part.sen.held = false) (pins : BitVec 8) :
    exec (.filteredLevelChange pins) s = .next (s.settled (s.part.sampleLines pins)) := State.run_live hl _

theorem sampledFilters_get (t : Tables) (pins : BitVec 8) (fs : Vector (Option LineFilter) 8) (k : Fin 8) :
    (sampledFilters t pins fs)[k] =
      if isInputFunction (t.line k).function then
        (fs[k]).map fun f => f.sample (filterTime (t.line k).filter) (xor (pins.getLsbD k.val) (t.line k).invert)
      else fs[k] := by
  simp only [sampledFilters, Fin.getElem_fin, Vector.getElem_ofFn]
  rfl

namespace Part

variable {p : Part} {pins : BitVec 8}

/-- R22: the part with its inputs sampled, before its line set is formed. -/
def sampled (pins : BitVec 8) (p : Part) : Part :=
  { p with sen := { p.sen with
    pins := pins, sampleTimer := some 1000, filters := sampledFilters p.tab pins p.sen.filters } }

theorem sampleLines_kept (h : (p.sampled pins).sen.estop = p.sen.estop) :
    p.sampleLines pins = (p.sampled pins).formLines := if_pos h

theorem sampleLines_changed (h : (p.sampled pins).sen.estop ≠ p.sen.estop) :
    p.sampleLines pins = (p.sampled pins).formLines.estopChanged := if_neg h

/-- R24: handing ESTOP on changes nothing that the part senses but the permit set. -/
theorem SameSense.estopChanged (p : Part) : SameSense p p.estopChanged := by
  have cut : SameSense p (if p.sen.estop then p.acting Acting.cutOffAll else p) := by
    split
    · exact .withAct p _
    · exact .refl p
  exact (cut.trans (.formPermit _)).trans (.withAct _ _)

theorem SameSense.sampleLines (pins : BitVec 8) (p : Part) : SameSense (p.sampled pins) (p.sampleLines pins) := by
  have formed : SameSense (p.sampled pins) (p.sampled pins).formLines := .withAct _ _
  by_cases h : (p.sampled pins).sen.estop = p.sen.estop
  · rw [sampleLines_kept h]
    exact formed
  · rw [sampleLines_changed h]
    exact formed.trans (.estopChanged _)

/-- R24: a change of ESTOP, in the order of log 39. -/
theorem estopChanged_eq (p : Part) : p.estopChanged =
    (let cut : Part := if p.sen.estop = true then { p with act := p.act.cutOffAll p.ctx } else p
     let formed := cut.formPermit
     let word : Word := if p.sen.estop = true then 1 else 0
     { formed with act := formed.act.raise formed.ctx .estopChange [word] }) := by
  unfold estopChanged
  simp only [flagWord_eq]
  rfl

end Part

/-- Settles O12. -/
theorem samplingInstantFiltersInputs : Obligations.SamplingInstantFiltersInputs := by
  intro s pins hl
  have sense : Part.SameSense (s.part.sampled pins) (s.settled (s.part.sampleLines pins)).part :=
    (Part.SameSense.sampleLines pins s.part).trans (.settle _)
  refine ⟨s.settled (s.part.sampleLines pins), exec_inputSample hl pins, exec_filteredLevelChange hl pins, rfl,
    sense.tab, sense.pins, sense.sampleTimer, fun k => ?_, sense.image, sense.meters, sense.mode, ?_⟩
  · exact (congrArg (fun fs : Vector (Option LineFilter) 8 => fs[k]) sense.filters).trans
      (sampledFilters_get _ pins _ k)
  · rw [sense.filters]
    exact ⟨fun h => congrArg s.settled (Part.sampleLines_kept h), fun h => congrArg s.settled (Part.sampleLines_changed h),
      Part.estopChanged_eq (s.part.sampled pins).formLines⟩

end Sys2Proof.Machine
end

section
/-! PROOFS. O22: the groups of a bank, and BANK_SWAP (R39, R56, R57). -/

namespace Sys2Proof.Machine

/-! ### The groups of a bank (R39) -/

/-- No run reaches from the rules before `i` into rule `i`. -/
def OpensAt (rule : Nat → Rule) (i : Nat) : Prop :=
  i = 0 ∨ (rule (i - 1)).used = false ∨ (rule (i - 1)).join = .alone

/-- R39: the group is a maximal run of used rules among the first `n`, of which every one but the last joins the
next, as it starts (R57). -/
structure Group.IsRun (rule : Nat → Rule) (n : Nat) (g : Group) : Prop where
  starts : g.state = .presumed ∧ g.trueRun = 0 ∧ g.falseRun = 0
  ordered : g.first ≤ g.last
  inside : g.last < n
  used : ∀ k, g.first ≤ k → k ≤ g.last → (rule k).used = true
  joined : ∀ k, g.first ≤ k → k < g.last → (rule k).join = .andNext
  ends : (rule g.last).join = .alone ∨ g.last + 1 = n ∨ (rule (g.last + 1)).used = false
  opens : OpensAt rule g.first

/-- R39: the groups are the runs of the rules from `lo` up to `n`, by ascending rule number, and none is left out. -/
structure RunsFrom (rule : Nat → Rule) (n lo : Nat) (gs : List Group) : Prop where
  runs : ∀ g ∈ gs, g.IsRun rule n
  above : ∀ g ∈ gs, lo ≤ g.first
  covers : ∀ k, lo ≤ k → k < n → (rule k).used = true → ∃ g ∈ gs, g.first ≤ k ∧ k ≤ g.last
  ascending : gs.Pairwise fun g g' => g.last < g'.first

namespace RunsFrom

variable {rule : Nat → Rule} {n lo : Nat} {gs : List Group}

theorem nil (rule : Nat → Rule) (n : Nat) : RunsFrom rule n n [] :=
  ⟨by simp, by simp, fun _ h h' => absurd h' (by omega), .nil⟩

theorem skip (h : RunsFrom rule n (lo + 1) gs) (hu : (rule lo).used = false) : RunsFrom rule n lo gs := by
  refine ⟨h.runs, fun g hg => Nat.le_of_succ_le (h.above g hg), fun k hk hn hk' => ?_, h.ascending⟩
  rcases hk.eq_or_lt with rfl | hlt
  · rw [hu] at hk'
    cases hk'
  · exact h.covers k hlt hn hk'

/-- A run stands before the groups of the rules behind it. -/
theorem cons {g : Group} (hg : g.IsRun rule n) (h : RunsFrom rule n (g.last + 1) gs) :
    RunsFrom rule n g.first (g :: gs) := by
  refine ⟨List.forall_mem_cons.2 ⟨hg, h.runs⟩, List.forall_mem_cons.2 ⟨le_rfl, fun g' hg' => ?_⟩,
    fun k hk hn hu => ?_, List.pairwise_cons.2 ⟨h.above, h.ascending⟩⟩
  · have := hg.ordered
    have := h.above g' hg'
    omega
  · by_cases hl : k ≤ g.last
    · exact ⟨g, List.mem_cons_self, hk, hl⟩
    · obtain ⟨g', hg', hin⟩ := h.covers k (by omega) hn hu
      exact ⟨g', List.mem_cons_of_mem _ hg', hin⟩

end RunsFrom

/-- The run that is open at rule `i`, if any: its rules are used and join the next, and it began where no other
reaches. -/
def OpenRun (rule : Nat → Rule) (i : Nat) : Option Nat → Prop
  | none => OpensAt rule i
  | some f => f < i ∧ OpensAt rule f ∧ ∀ k, f ≤ k → k < i → (rule k).used = true ∧ (rule k).join = .andNext

/-- R39: an open run that ends before rule `i`. -/
theorem OpenRun.closes {rule : Nat → Rule} {n i f : Nat} (h : OpenRun rule i (some f)) (hi : i ≤ n)
    (he : i = n ∨ (rule i).used = false) : Group.IsRun rule n ⟨f, i - 1, .presumed, 0, 0⟩ := by
  obtain ⟨hf, ho, hr⟩ := h
  have back : i - 1 + 1 = i := by omega
  refine ⟨⟨rfl, rfl, rfl⟩, by dsimp only; omega, by dsimp only; omega, fun k hk hl => ?_, fun k hk hl => ?_, .inr ?_, ho⟩
  · exact (hr k hk (by dsimp only at hl; omega)).1
  · exact (hr k hk (by dsimp only at hl; omega)).2
  · dsimp only
    rw [back]
    exact he

/-- R39: a used rule joins the open run, or begins one. -/
theorem OpenRun.joins {rule : Nat → Rule} {i : Nat} {start : Option Nat} (h : OpenRun rule i start)
    (hu : (rule i).used = true) : start.getD i ≤ i ∧ OpensAt rule (start.getD i)
      ∧ (∀ k, start.getD i ≤ k → k ≤ i → (rule k).used = true)
      ∧ ∀ k, start.getD i ≤ k → k < i → (rule k).join = .andNext := by
  cases start with
  | none =>
    refine ⟨le_rfl, h, fun k hk hl => ?_, fun k hk hl => absurd hl (by simpa using hk)⟩
    rwa [Nat.le_antisymm hl hk]
  | some f =>
    obtain ⟨hf, ho, hr⟩ := h
    refine ⟨hf.le, ho, fun k hk hl => ?_, fun k hk hl => (hr k hk hl).2⟩
    rcases hl.eq_or_lt with rfl | hlt
    · exact hu
    · exact (hr k hk hlt).1

/-- R39: from rule `i`, with the run that is open there, the groups formed are the runs. -/
theorem formGroupsFrom_runs (all : List Rule) (rules : List Rule) (i : Nat) (start : Option Nat)
    (hd : all.drop i = rules) (hi : i ≤ all.length) (h : OpenRun (fun k => all.getD k Rule.empty) i start) :
    RunsFrom (fun k => all.getD k Rule.empty) all.length (start.getD i) (formGroupsFrom i start rules) := by
  induction rules generalizing i start with
  | nil =>
    have hn : i = all.length := le_antisymm hi (List.drop_eq_nil_iff.1 hd)
    cases start with
    | none =>
      rw [Option.getD_none, hn]
      exact .nil _ _
    | some f =>
      have back : i - 1 + 1 = all.length := by have := h.1; omega
      refine .cons (h.closes hi (.inl hn)) ?_
      dsimp only
      rw [back]
      exact .nil _ _
  | cons r rest ih =>
    have hlt : i < all.length := by
      by_contra hge
      rw [List.drop_eq_nil_of_le (Nat.not_lt.1 hge)] at hd
      cases hd
    rw [List.drop_eq_getElem_cons hlt] at hd
    obtain ⟨hr, hrest⟩ := List.cons.inj hd
    have rule_i : all.getD i Rule.empty = r := by rw [List.getD_eq_getElem _ _ hlt, hr]
    have after : ∀ {start}, OpenRun (fun k => all.getD k Rule.empty) (i + 1) start →
        RunsFrom (fun k => all.getD k Rule.empty) all.length (start.getD (i + 1)) (formGroupsFrom (i + 1) start rest) :=
      ih _ _ hrest hlt
    unfold formGroupsFrom
    dsimp only
    split
    next hu =>
      have hu' : (all.getD i Rule.empty).used = true := by rw [rule_i]; exact hu
      obtain ⟨hf, ho, used, joined⟩ := OpenRun.joins h hu'
      split
      next hj =>
        refine after (start := some (start.getD i)) ⟨Nat.lt_succ_of_le hf, ho, fun k hk hl => ⟨used k hk (by omega), ?_⟩⟩
        rcases (Nat.le_of_lt_succ hl).eq_or_lt with rfl | hlt'
        · dsimp only
          rw [rule_i]
          exact hj
        · exact joined k hk hlt'
      next hj =>
        have alone : (all.getD i Rule.empty).join = .alone := by rw [rule_i]; exact hj
        exact .cons (g := ⟨start.getD i, i, .presumed, 0, 0⟩)
          ⟨⟨rfl, rfl, rfl⟩, hf, hlt, used, joined, .inl alone, ho⟩ (after (start := none) (.inr (.inr alone)))
    next hu =>
      have hu' : (all.getD i Rule.empty).used = false := by rw [rule_i]; exact Bool.eq_false_iff.2 hu
      have behind := after (start := none) (.inr (.inl hu'))
      cases start with
      | none => exact behind.skip hu'
      | some f =>
        have back : i - 1 + 1 = i := by have := h.1; omega
        refine .cons (h.closes hi (.inr hu')) ?_
        dsimp only
        rw [back]
        exact behind.skip hu'

theorem Tables.activeRules_length (t : Tables) : t.activeRules.length = 48 := Vector.length_toList

/-- R39, R57: the groups of the active bank as they start are its runs. -/
theorem Tables.startGroups_runs (t : Tables) :
    RunsFrom (fun k => t.activeRules.getD k Rule.empty) 48 0 t.startGroups := by
  have := formGroupsFrom_runs t.activeRules t.activeRules 0 none rfl (Nat.zero_le _) (.inl rfl)
  rwa [Tables.activeRules_length] at this

/-! ### What an evaluation forms -/

/-- R54, R55: when the permit set is formed, it is that of the rule, and all else that the part senses stays. -/
theorem Part.formPermit_sen (p : Part) : p.formPermit.sen = { p.sen with permit := p.ctx.permitSet } := by
  unfold Part.formPermit
  dsimp only
  split
  next h => rw [h]
  · rfl

/-- R43, R44, R55: an evaluation leaves the groups evaluated, and the permit set as the rule forms it from them. -/
theorem Part.evaluate_sen (concerned : Group → Bool) (p : Part) :
    let formed : Sensed := { p.sen with groups := p.evaluatedGroups concerned }
    (p.evaluate concerned).sen = { formed with permit := Ctx.permitSet ⟨p.tab, formed⟩ } :=
  Part.formPermit_sen (Part.formLines { p with sen := { p.sen with groups := p.evaluatedGroups concerned } })

theorem Part.evaluate_permit (concerned : Group → Bool) (p : Part) :
    (p.evaluate concerned).sen.permit = (p.evaluate concerned).ctx.permitSet := by
  unfold Part.ctx
  rw [Part.evaluate_sen, (Part.SameSense.evaluate concerned p).tab]
  rfl

theorem Part.takeLines_groups (v : Int) (p : Part) : (p.takeLines v).sen.groups = p.sen.groups.map fun g =>
    if g.uses p.tab.activeRules 11 then
      g.step (g.lastRule p.tab.activeRules) (g.holds p.tab.activeRules (p.sen.writeLines v))
    else g :=
  congrArg Sensed.groups (Part.evaluate_sen _ { p with sen := p.sen.writeLines v })

/-! ### BANK_SWAP (R56) -/

theorem Tables.bankEmpty_iff (t : Tables) (which : Bank) :
    t.bankEmpty which = true ↔ ∀ r ∈ (t.bank which).toList, r.used = false := by
  simp only [Tables.bankEmpty, List.all_eq_true, Bool.not_eq_true']

namespace Part

variable {p : Part} {which : Bank}

theorem swapFrame_named {w : Word} (h : bankOf w.toInt = some which) : p.swapFrame [w] = p.bankSwap which := by
  simp only [swapFrame, h]

theorem bankSwap_active (h : p.tab.active = which) : p.bankSwap which = (p, .noChange) := if_pos h

theorem bankSwap_empty (h : p.tab.active ≠ which) (he : p.tab.bankEmpty which = true) :
    p.bankSwap which = (p, .emptyRules) :=
  (if_neg h).trans (if_pos he)

theorem bankSwap_taken (h : p.tab.active ≠ which) (he : ¬p.tab.bankEmpty which = true) :
    p.bankSwap which = (p.swapTo which, .done) :=
  (if_neg h).trans (if_neg he)

end Part

/-- A BANK_SWAP that names a bank is answered with its result. -/
theorem exec_bankSwap {s : State} {h : Header} {w : Word} {which : Bank} {q : Part} {r : Result}
    (hc : s.part.consumes h .bankSwap [w]) (hw : bankOf w.toInt = some which)
    (hq : (s.entered h).bankSwap which = (q, r)) :
    exec (.bankSwap h [w]) s = .next (s.answered h .bankSwap r q) :=
  exec_answered rfl hc (by decide) (by decide)
    (congrArg (answer (frameOf h .bankSwap [w])) ((Part.swapFrame_named hw).trans hq))

/-- Settles O22. -/
theorem bankSwapAsStated : Obligations.BankSwapAsStated := by
  refine ⟨fun t => ?_, fun s h w which hc hw => ?_⟩
  · intro rule
    have formed := t.startGroups_runs
    refine ⟨fun g hg => ?_, fun k hk hu => formed.covers k k.zero_le (Nat.lt_succ_of_le hk) hu, formed.ascending⟩
    obtain ⟨⟨presumed, trueRun, falseRun⟩, ordered, inside, used, joined, ends, opens⟩ := formed.runs g hg
    exact ⟨presumed, trueRun, falseRun, ordered, Nat.le_of_lt_succ inside, used, joined,
      ends.imp_right (.imp_left (by omega)), opens⟩
  · intro e
    refine ⟨fun ha => exec_bankSwap hc hw (Part.bankSwap_active ha), fun ha he => ?_, fun ha hu => ?_⟩
    · exact exec_bankSwap hc hw (Part.bankSwap_empty ha ((Tables.bankEmpty_iff _ _).2 he))
    · intro tab lit arrived
      obtain ⟨r, hr, hr'⟩ := hu
      have filled : ¬e.tab.bankEmpty which = true := fun he => by
        have := (Tables.bankEmpty_iff _ _).1 he r hr
        rw [hr'] at this
        cases this
      set cleared : Part := { lit with act := { lit.act with lineWrites := [] } } with hcleared
      have sense := Part.SameSense.takeLines lit.lineSet cleared
      exact ⟨cleared.takeLines lit.lineSet, exec_bankSwap hc hw (Part.bankSwap_taken ha filled), rfl, sense.tab,
        Part.takeLines_image _ _, Part.takeLines_lines _ _, Part.takeLines_groups _ _, Part.evaluate_permit _ _,
        sense.filters, sense.image⟩

end Sys2Proof.Machine
end

section
/-! SUPPORT. The cut-off of the axes (R79, R80): what it leaves of an axis, of the DEMANDs that wait, of the search and
of the sequencer, and that nothing starts from there while ESTOP is asserted (R67). -/

namespace Sys2Proof.Machine

/-! ### One axis cut off (R79) -/

namespace AxisRun.CutOff

variable {r r' r'' : AxisRun}

theorem trans (h₁ : CutOff r r') (h₂ : CutOff r' r'') : CutOff r r'' := by
  obtain ⟨_, _, faulted₁, cut₁⟩ := h₁
  obtain ⟨vPrev, stall, faulted₂, cut₂⟩ := h₂
  refine ⟨vPrev, stall, fun h => ?_, fun h => ?_⟩
  · obtain ⟨state, cause⟩ := faulted₁ h
    exact ⟨(faulted₂ state).1, (faulted₂ state).2.trans cause⟩
  · obtain ⟨state, _⟩ := cut₁ h
    exact cut₂ (by rw [state]; decide)

theorem cutOff (r : AxisRun) : CutOff r r.cutOff := by
  unfold AxisRun.cutOff
  split
  next h => exact ⟨rfl, rfl, fun _ => ⟨h, rfl⟩, fun h' => absurd h h'⟩
  next h => exact ⟨rfl, rfl, fun h' => absurd h' h, fun _ => ⟨rfl, rfl, rfl, rfl, rfl, rfl, rfl⟩⟩

theorem rests (h : CutOff r r') : r'.state = .stopped ∨ r'.state = .fault := by
  obtain ⟨_, _, faulted, cut⟩ := h
  by_cases hs : r.state = .fault
  · exact .inr (faulted hs).1
  · exact .inl (cut hs).1

/-- R69: an axis that was cut off loses no more than its owner when it is released. -/
theorem released (h : CutOff r r') : CutOff r r'.released := by
  have owner : r'.released = { r' with owner := .none } := by
    unfold AxisRun.released
    rcases h.rests with hs | hs <;> rw [hs]
  rw [owner]
  obtain ⟨vPrev, stall, faulted, cut⟩ := h
  refine ⟨vPrev, stall, faulted, fun hs => ?_⟩
  obtain ⟨state, _, rest⟩ := cut hs
  exact ⟨state, rfl, rest⟩

end AxisRun.CutOff

/-! ### The zeros that wait (R77, R169) -/

namespace Output

variable {t : Tables} {x y : Axis} {f : Frame} {o o' : Output}

/-- Every DEMAND of the axis that waits is this frame. -/
def WaitsOnly (x : Axis) (f : Frame) (o : Output) : Prop := ∀ g, DEntry.demand x g ∈ o.driveQueue → g = f

theorem WaitsOnly.of_onlyC (h : o.WaitsOnly x f) (ho : o.OnlyC o') : o'.WaitsOnly x f := by
  unfold WaitsOnly
  rw [ho.driveQueue]
  exact h

/-- R174: a port that begins takes a frame from its queue, and puts none in. -/
theorem startIfIdle_driveQueue_subset (t : Tables) (v : List Word) (o : Output) :
    (o.startIfIdle t v .d).driveQueue ⊆ o.driveQueue := by
  unfold startIfIdle
  split
  · simp only [takeNext]
    split
    next e rest hq =>
      rw [hq]
      exact List.subset_cons_self e rest
    · exact List.Subset.refl _
  · exact List.Subset.refl _

/-- R169: a DEMAND that is placed takes the place of those of its axis, and of no others. -/
theorem of_mem_insertDemand {g : Frame} {q : List DEntry} (h : DEntry.demand y g ∈ insertDemand x f q) :
    (y = x ∧ g = f) ∨ (y ≠ x ∧ DEntry.demand y g ∈ q) := by
  have placed : DEntry.demand y g = .demand x f → (y = x ∧ g = f) ∨ (y ≠ x ∧ DEntry.demand y g ∈ q) := fun h => by
    injection h with hy hg
    exact .inl ⟨hy, hg⟩
  unfold insertDemand at h
  split at h
  next =>
    obtain ⟨e, he, hm⟩ := List.mem_map.1 h
    split at hm
    · exact placed hm.symm
    next hx =>
      subst hm
      exact .inr ⟨by simpa [DEntry.isDemandOf] using hx, he⟩
  next hx =>
    rcases List.mem_append.1 h with he | he
    · refine .inr ⟨fun hy => hx (List.any_eq_true.2 ⟨_, he, ?_⟩), he⟩
      simp [DEntry.isDemandOf, hy]
    · exact placed (List.mem_singleton.1 he)

theorem sendDemand_driveQueue_subset (hd : t.ports.d.state ≠ .closed) (v : List Word) (x : Axis) (rate : Int) (o : Output) :
    (o.sendDemand t v x rate).driveQueue ⊆ insertDemand x (demandFrame t x rate) o.driveQueue := by
  unfold sendDemand
  dsimp only
  rw [if_neg hd]
  exact startIfIdle_driveQueue_subset t v _

theorem waitsOnly_sendDemand (hd : t.ports.d.state ≠ .closed) (v : List Word) (x : Axis) (rate : Int) (o : Output) :
    (o.sendDemand t v x rate).WaitsOnly x (demandFrame t x rate) := by
  intro g hg
  rcases of_mem_insertDemand (sendDemand_driveQueue_subset hd v x rate o hg) with ⟨_, h⟩ | ⟨h, _⟩
  · exact h
  · exact absurd rfl h

theorem WaitsOnly.sendDemand (hd : t.ports.d.state ≠ .closed) (v : List Word) (hxy : y ≠ x) (rate : Int)
    (h : o.WaitsOnly y f) : (o.sendDemand t v x rate).WaitsOnly y f := by
  intro g hg
  rcases of_mem_insertDemand (sendDemand_driveQueue_subset hd v x rate o hg) with ⟨hy, _⟩ | ⟨_, hm⟩
  · exact absurd hy hxy
  · exact h g hm

/-- R77: every DEMAND that waits carries 0, and every axis's DEMAND of 0 waits or is in transmission. -/
structure Zeroed (t : Tables) (o : Output) : Prop where
  waits : ∀ x, o.WaitsOnly x (demandFrame t x 0)
  sends : ∀ x, o.sends (demandFrame t x 0) x

theorem Zeroed.of_onlyC (h : o.Zeroed t) (ho : o.OnlyC o') : o'.Zeroed t :=
  ⟨fun x => (h.waits x).of_onlyC ho, fun x => sends_of_onlyC ho (h.sends x)⟩

end Output

namespace Acting

/-- R77: in OPERATING, at a port D that is not CLOSED, immediate zeros at every axis leave no other DEMAND waiting. -/
theorem zeroed_shift {c : Ctx} (hm : c.sen.mode = .operating) (hd : c.tab.ports.d.state ≠ .closed)
    (f : Axis → AxisRun → AxisRun) (a : Acting) : (a.shift c (immediateZeros c everyAxis) f).out.Zeroed c.tab := by
  have rate : ∀ x, immediateZeros c everyAxis x = some 0 := fun x => if_pos (by simp [Ctx.operating, hm, everyAxis])
  have sent : ∀ (x : Axis) (b : Acting), b.sendOne c (immediateZeros c everyAxis) x =
      b.emit c fun t w o => o.sendDemand t w x 0 := fun x b => by unfold sendOne; rw [rate]
  refine ⟨fun x => ?_, fun x => sends_zero rfl hm hd f a⟩
  unfold shift
  refine Output.WaitsOnly.of_onlyC ?_ (reportAxes_onlyC _ _ _)
  rw [sendDemands_eq, sent, sent, sent]
  cases x
  case mast =>
    exact ((Output.waitsOnly_sendDemand hd _ .mast 0 _).sendDemand hd _ (by decide) 0).sendDemand hd _ (by decide) 0
  case pan => exact (Output.waitsOnly_sendDemand hd _ .pan 0 _).sendDemand hd _ (by decide) 0
  case tilt => exact Output.waitsOnly_sendDemand hd _ .tilt 0 _

end Acting

/-! ### What does nothing to a search that is not running, and to a sequencer at IDLE -/

theorem SearchState.ended_of_not_running {st : SearchState} (h : st.running = false) : st = .idle ∨ st = .failed := by
  revert h
  cases st <;> decide

namespace Acting

variable {c : Ctx} {a : Acting}

theorem release_get (c : Ctx) (o : Owner) (a : Acting) (x : Axis) :
    (a.release c o).axes.get x = if (a.axes.get x).owner = o then (a.axes.get x).released else a.axes.get x := by
  unfold release shiftQuiet
  rw [shift_get]

theorem release_search (c : Ctx) (o : Owner) (a : Acting) : (a.release c o).search = a.search := by
  unfold release shiftQuiet
  rw [shift_search]

theorem release_seq (c : Ctx) (o : Owner) (a : Acting) : (a.release c o).seq = a.seq := by
  unfold release shiftQuiet
  rw [shift_seq]

theorem leaveCause_ended (h : a.search.state.running = false) (c : Ctx) (f : SuspendCauses → SuspendCauses) :
    a.leaveCause c f = a := by
  refine if_neg fun hs => ?_
  rw [hs.1] at h
  cases h

theorem enterCause_ended (h : a.search.state.running = false) (c : Ctx) (f : SuspendCauses → SuspendCauses) :
    a.enterCause c f = a := by
  have kept : a.search.enterCause c.tab.search f = a.search := by
    unfold SearchRun.enterCause
    rcases SearchState.ended_of_not_running h with hs | hs <;> rw [hs]
  exact congrArg (fun r => { a with search := r }) kept

theorem searchSeesPermit_ended (h : a.search.state.running = false) (c : Ctx) (old : BitVec 7) :
    a.searchSeesPermit c old = a := by
  unfold searchSeesPermit
  dsimp only
  rw [enterCause_ended h, leaveCause_ended h, ite_self, ite_self]

/-- R112, R117, R121: a search that is not running sees nothing of the axes. -/
theorem searchSeesAxes_ended (h : a.search.state.running = false) (c : Ctx) (old : PerAxis AxisRun) :
    a.searchSeesAxes c old = a := by
  have still : a.returned = false := by
    rcases SearchState.ended_of_not_running h with hs | hs <;> simp [returned, hs]
  unfold searchSeesAxes
  simp only [h, Bool.false_and, Bool.false_eq_true, if_false, enterCause_ended h, leaveCause_ended h, ite_self, returnCheck,
    still]

/-- R91: changes of axes that are not AT_GOAL concern neither a search that is not running nor a sequencer at IDLE. -/
theorem handAxes_ended (h : a.search.state.running = false) (hs : a.seq.state = .idle)
    (hp : a.axes.pan.state ≠ .atGoal) (c : Ctx) (old : PerAxis AxisRun) : a.handAxes c old = a := by
  have moving : a.dishStill = false := by simp [dishStill, hp]
  have after : a.searchAfter c = a := by
    unfold searchAfter
    split
    · rfl
    · simp only [moving, Bool.false_and, Bool.false_eq_true, if_false]
  unfold handAxes
  rw [searchSeesAxes_ended h, after]
  unfold sequencerSeesAxes
  rw [hs]
  rfl

/-! ### The ends that a cut-off makes -/

/-- R123: an aborted search no longer runs, and has released its axes. -/
theorem abortSearch_ended (c : Ctx) (a : Acting) : (a.abortSearch c).search.state.running = false := by
  unfold abortSearch
  split
  · unfold endSearch
    simp only [searchEvent_search, release_search, searching_search]
    rfl
  next h => exact Bool.eq_false_iff.2 h

theorem abortSearch_seq (c : Ctx) (a : Acting) : (a.abortSearch c).seq = a.seq := by
  unfold abortSearch
  split
  · unfold endSearch
    simp only [searchEvent_seq, release_seq, searching_seq]
  · rfl

theorem abortSearch_get (c : Ctx) (a : Acting) (x : Axis) :
    (a.abortSearch c).axes.get x = a.axes.get x ∨ (a.abortSearch c).axes.get x = (a.axes.get x).released := by
  unfold abortSearch
  split
  · unfold endSearch
    simp only [searchEvent_axes, release_get, searching_axes]
    exact (ite_eq_or_eq _ _ _).symm
  · exact .inl rfl

/-- R137: a search that is not running does not hear of the end of a LOWER. -/
theorem lowerEnds_ended (h : a.search.state.running = false) (c : Ctx) (was : SequenceState) :
    a.lowerEnds c was = a := by
  unfold lowerEnds
  rw [leaveCause_ended h, ite_self]

/-- R137: the acting side with the sequencer at IDLE and its axes released. -/
def seqFreed (c : Ctx) (a : Acting) : Acting :=
  Acting.release c .safety { a with seq := { a.seq with state := .idle, timer := none } }

theorem seqFreed_search (c : Ctx) (a : Acting) : (a.seqFreed c).search = a.search := release_search c _ _

theorem seqFreed_seq (c : Ctx) (a : Acting) : (a.seqFreed c).seq = { a.seq with state := .idle, timer := none } :=
  release_seq c _ _

theorem seqFreed_get (c : Ctx) (a : Acting) (x : Axis) :
    (a.seqFreed c).axes.get x = a.axes.get x ∨ (a.seqFreed c).axes.get x = (a.axes.get x).released := by
  have := release_get c .safety { a with seq := { a.seq with state := .idle, timer := none } } x
  unfold seqFreed
  rw [this]
  exact (ite_eq_or_eq _ _ _).symm

/-- R137: with no search running, the end of a sequence that releases its axes is their release, the record and the
event. -/
theorem endSequence_ended (h : a.search.state.running = false) (c : Ctx) (e : Ending) (r : SequenceReason) :
    a.endSequence c e r .release = Acting.sequenceEvent c a.seq.state.sequence e (sequenceReasonCode r) a.seq.state
      { a.seqFreed c with seq := (a.seqFreed c).seq.record a.seq.state.sequence e r } := by
  have ended : (a.seqFreed c).search.state.running = false := by
    rw [seqFreed_search]
    exact h
  have deaf := lowerEnds_ended ended c a.seq.state
  unfold seqFreed at deaf ⊢
  unfold endSequence partAxes
  dsimp only
  rw [deaf]

/-- R135: after an abort the sequencer is at IDLE, its axes are released, and nothing else of the search and the axes
has changed. -/
theorem abortSequence_ended (h : a.search.state.running = false) (c : Ctx) :
    (a.abortSequence c).search = a.search ∧ (a.abortSequence c).seq.state = .idle
      ∧ ∀ x, (a.abortSequence c).axes.get x = a.axes.get x
        ∨ (a.abortSequence c).axes.get x = (a.axes.get x).released := by
  unfold abortSequence
  split
  · rw [endSequence_ended h]
    simp only [sequenceEvent_search, sequenceEvent_seq, sequenceEvent_axes]
    exact ⟨seqFreed_search c a, congrArg SequencerRun.state (seqFreed_seq c a), seqFreed_get c a⟩
  next hs => exact ⟨rfl, by simpa [SequenceState.running] using hs, fun _ => .inl rfl⟩

/-! ### The acting side cut off -/

/-- R79: the acting side `b` is `a` with every axis cut off, no search and no sequence running, and, in OPERATING at a
port D that is not CLOSED, nothing but zeros sent. -/
structure CutFrom (m : Mode) (t : Tables) (a b : Acting) : Prop where
  axes : ∀ x, AxisRun.CutOff (a.axes.get x) (b.axes.get x)
  search : b.search.state.running = false
  seq : b.seq.state = .idle
  zeroed : m = .operating → t.ports.d.state ≠ .closed → b.out.Zeroed t

/-- R79, R80: a cut-off cuts the acting side off. -/
theorem cutOffAll_cutFrom (c : Ctx) (a : Acting) : CutFrom c.sen.mode c.tab a (a.cutOffAll c) := by
  set cut : Acting := a.shift c (immediateZeros c everyAxis) (fun _ r => r.cutOff) with hcut
  have ended := abortSearch_ended c cut
  obtain ⟨search, idle, freed⟩ := abortSequence_ended ended c
  have quiet : cut.Coasts (a.cutOffAll c) :=
    (Coasts.ite (.endSearch .idle .none .aborted cut)).trans (.ite (.endSequence .aborted .none .release _))
  refine ⟨fun x => ?_, (congrArg (fun r : SearchRun => r.state.running) search).trans ended, idle,
    fun hm hd => (zeroed_shift hm hd _ a).of_onlyC quiet.out⟩
  have at_axis : AxisRun.CutOff (a.axes.get x) (cut.axes.get x) := by
    rw [hcut, shift_get]
    exact .cutOff _
  have aborted : AxisRun.CutOff (a.axes.get x) ((cut.abortSearch c).axes.get x) := by
    rcases abortSearch_get c cut x with h | h <;> rw [h]
    · exact at_axis
    · exact at_axis.released
  rcases freed x with h | h
  · exact h ▸ aborted
  · exact h ▸ aborted.released

namespace CutFrom

variable {m : Mode} {t : Tables} {b d : Acting}

theorem trans (h₁ : CutFrom m t a b) (h₂ : CutFrom m t b d) : CutFrom m t a d :=
  ⟨fun x => (h₁.axes x).trans (h₂.axes x), h₂.search, h₂.seq, h₂.zeroed⟩

theorem quiet (h : CutFrom m t a b) (hq : b.Quiet d) : CutFrom m t a d :=
  ⟨fun x => hq.axes ▸ h.axes x, hq.search ▸ h.search, hq.seq ▸ h.seq, fun hm hd => (h.zeroed hm hd).of_onlyC hq.out⟩

/-- R78: with every v_prev 0 a change of the permit set holds no axis. -/
theorem holdAxes (h : CutFrom m t a b) (c : Ctx) (old : BitVec 7) :
    CutFrom m t a (b.holdAxes c fun x => lostDirection old c.sen.permit x (b.axes.get x)) := by
  have lost : ∀ x, lostDirection old c.sen.permit x (b.axes.get x) = false := fun x => by
    simp [lostDirection, (h.axes x).1]
  have no_zeros : (immediateZeros c fun _ => false) = fun _ => none := by
    funext x
    simp [immediateZeros]
  obtain ⟨ws, shifted⟩ := shift_silent c (fun _ r => r) b fun _ => rfl
  have kept : CutFrom m t a (b.shift c (fun _ => none) fun _ r => r) := by
    rw [shifted]
    exact ⟨h.axes, h.search, h.seq, h.zeroed⟩
  have pan : (b.shift c (fun _ => none) fun _ r => r).axes.pan.state ≠ .atGoal := by
    rcases (kept.axes .pan).rests with hs | hs <;> exact fun h' => by cases hs.symm.trans h'
  unfold Acting.holdAxes
  simp only [lost, no_zeros, Bool.false_eq_true, if_false]
  rw [handAxes_ended kept.search kept.seq pan]
  exact kept

theorem seePermit (h : CutFrom m t a b) (c : Ctx) (old : BitVec 7) : CutFrom m t a (b.seePermit c old) := by
  have held := h.holdAxes c old
  unfold Acting.seePermit
  rw [searchSeesPermit_ended held.search]
  exact held.quiet ⟨rfl, rfl, rfl, rfl, .requestStatus _ _ _⟩

end CutFrom

/-! ### The actions of groups while ESTOP is asserted -/

/-- R67: while ESTOP is asserted every claim is refused. -/
theorem claimCheck_estop (he : c.sen.estop = true) (o : Owner) (x : Axis) (r : AxisRun) :
    ∃ refusal, claimCheck c o x r = some refusal := by
  unfold claimCheck
  split <;> exact ⟨_, rfl⟩

namespace Quiet

theorem stowAction (he : c.sen.estop = true) (a : Acting) : a.Quiet (a.stowAction c).1 := by
  have refused : stowClaim c a ≠ none := fun h => by
    obtain ⟨r, hr⟩ := claimCheck_estop he .safety .mast a.axes.mast
    have passed : claimCheck c .safety .mast a.axes.mast = none :=
      List.findSome?_eq_none_iff.1 h .mast (mem_axisList _)
    cases hr.symm.trans passed
  unfold Acting.stowAction
  split
  · exact raise c _ _ a
  next h => exact absurd h refused

theorem lowerAction (he : c.sen.estop = true) (a : Acting) : a.Quiet (a.lowerAction c).1 := by
  obtain ⟨r, hr⟩ := claimCheck_estop he .safety .mast a.axes.mast
  unfold Acting.lowerAction
  rw [hr]
  exact raise c _ _ a

/-- R51, R128, R136: while ESTOP is asserted no sequence starts. -/
theorem performSequence (he : c.sen.estop = true) (stow lower : Bool) (a : Acting) :
    a.Quiet (a.performSequence c stow lower).1 := by
  unfold Acting.performSequence
  split
  · split
    · exact refl a
    · exact stowAction he a
  · split
    · exact lowerAction he a
    · exact refl a

end Quiet

/-- R50: an action of a group leaves the acting side cut off while ESTOP is asserted. -/
theorem CutFrom.perform {b : Acting} (h : CutFrom c.sen.mode c.tab a b) (he : c.sen.estop = true) (rules : List Rule)
    (changes : List (Group × Group)) : CutFrom c.sen.mode c.tab a (b.perform c rules changes).1 := by
  unfold Acting.perform
  split
  · exact h
  · dsimp only
    refine CutFrom.quiet ?_ (.performSequence he _ _ _)
    split
    · exact h.trans (cutOffAll_cutFrom c b)
    · exact h

end Acting

end Sys2Proof.Machine
end

section
/-! PROOFS. O14: the assertion of ESTOP, which no arrival of the line set undoes (R24, R54, R77, R79). -/

namespace Sys2Proof.Machine

/-! ### The part cut off -/

/-- R54: while ESTOP is asserted the permit set is empty. -/
theorem Ctx.permitSet_estop {c : Ctx} (he : c.sen.estop = true) : c.permitSet = 0 := by
  simp [Ctx.permitSet, he]

/-- R24, R79: the part `q` has ESTOP asserted and an empty permit set, and its acting side is that of `p` cut off. -/
structure Part.CutFrom (p q : Part) : Prop where
  tab : q.tab = p.tab
  mode : q.sen.mode = p.sen.mode
  estop : q.sen.estop = true
  permit : q.sen.permit = 0
  act : Acting.CutFrom p.sen.mode p.tab p.act q.act

namespace Part.CutFrom

variable {p q : Part}

theorem quiet (h : p.CutFrom q) {a : Acting} (hq : q.act.Quiet a) : p.CutFrom { q with act := a } :=
  ⟨h.tab, h.mode, h.estop, h.permit, h.act.quiet hq⟩

theorem formLines (h : p.CutFrom q) : p.CutFrom q.formLines := h.quiet (.formLines _ _)

/-- R48: an evaluation forms no other permit set, and starts nothing. -/
theorem evaluate (h : p.CutFrom q) (concerned : Group → Bool) : p.CutFrom (q.evaluate concerned) := by
  set formed : Part := ({ q with sen := { q.sen with groups := q.evaluatedGroups concerned } } : Part).formLines
    with hformed
  have cut : p.CutFrom formed := formLines ⟨h.tab, h.mode, h.estop, h.permit, h.act⟩
  have kept : formed.formPermit = formed := if_pos ((Ctx.permitSet_estop cut.estop).trans cut.permit.symm)
  have performed : Acting.CutFrom p.sen.mode p.tab p.act (formed.act.perform formed.ctx q.tab.activeRules
      (q.sen.groups.zip (q.evaluatedGroups concerned))).1 := by
    have act := cut.act
    rw [← cut.tab, ← cut.mode] at act ⊢
    exact act.perform (c := formed.ctx) cut.estop _ _
  have evaluated : q.evaluate concerned =
      (let r := formed.formPermit.act.perform formed.formPermit.ctx q.tab.activeRules
        (q.sen.groups.zip (q.evaluatedGroups concerned))
       let told := (q.sen.groups.zip (q.evaluatedGroups concerned)).foldl
        (fun a ch => a.groupEvent formed.formPermit.ctx q.tab.activeRules r.2 ch.1 ch.2) r.1
       { formed.formPermit with act := told }) := rfl
  rw [evaluated, kept]
  exact ⟨cut.tab, cut.mode, cut.estop, cut.permit, performed.quiet (.groupEvents _ _ _ _ _)⟩

theorem takeLines (h : p.CutFrom q) (v : Int) : p.CutFrom (q.takeLines v) :=
  evaluate (q := { q with sen := q.sen.writeLines v }) ⟨h.tab, h.mode, h.estop, h.permit, h.act⟩ _

/-- R23, R79: no arrival of the line set undoes a cut-off. -/
theorem followLines (n : Nat) (h : p.CutFrom q) : p.CutFrom (Part.followLines n q) := by
  induction n generalizing q with
  | zero => exact h
  | succ n ih =>
    cases hw : q.act.lineWrites with
    | nil => rwa [Part.followLines_none _ hw]
    | cons v rest =>
      rw [Part.followLines_oldest n hw]
      exact ih (takeLines (h.quiet (a := { q.act with lineWrites := rest }) ⟨rfl, rfl, rfl, rfl, .refl _⟩) v)

theorem settle (h : p.CutFrom q) : p.CutFrom q.settle := h.formLines.followLines _

end Part.CutFrom

/-- R24: the assertion of ESTOP cuts the part off and empties the permit set. -/
theorem Part.estopChanged_cutFrom {p : Part} (he : p.sen.estop = true) : p.CutFrom p.estopChanged := by
  set cut : Part := { p with act := p.act.cutOffAll p.ctx } with hcut
  have act : Acting.CutFrom p.sen.mode p.tab p.act cut.act := Acting.cutOffAll_cutFrom p.ctx p.act
  have formed : p.CutFrom cut.formPermit := by
    have sense := Part.SameSense.formPermit cut
    refine ⟨sense.tab, sense.mode, ?_, ?_, ?_⟩
    · rw [Part.formPermit_sen]
      exact he
    · rw [Part.formPermit_sen]
      exact Ctx.permitSet_estop (c := cut.ctx) he
    · unfold Part.formPermit
      dsimp only
      split
      · exact act
      · exact act.seePermit _ _
  rw [Part.estopChanged_eq]
  simp only [he, if_true]
  exact formed.quiet (.raise _ _ _ _)

/-- R19, R22: the sampling instant gives ESTOP the level that L0's filter takes. -/
theorem Part.sampled_estop (pins : BitVec 8) (p : Part) : (p.sampled pins).sen.estop = p.sen.estopAfter pins := by
  have l0 := sampledFilters_get p.tab pins p.sen.filters 0
  unfold Sensed.estop Sensed.estopAfter Part.sampled
  dsimp only
  rw [l0]
  cases p.sen.filters[(0 : Fin 8)] <;> simp [Tables.line, LineRecord.estop, isInputFunction, filterTime]

/-- R24, R79: the sampling instant that asserts ESTOP cuts the part off. -/
theorem Part.sampleLines_cutFrom {p : Part} {pins : BitVec 8} (hoff : p.sen.estop = false)
    (hon : p.sen.estopAfter pins = true) : p.CutFrom (p.sampleLines pins) := by
  have on : (p.sampled pins).sen.estop = true := (Part.sampled_estop pins p).trans hon
  have cut := Part.estopChanged_cutFrom (p := (p.sampled pins).formLines) on
  rw [Part.sampleLines_changed (by rw [on, hoff]; decide)]
  refine ⟨cut.tab, cut.mode, cut.estop, cut.permit, fun x => ?_, cut.act.search, cut.act.seq, cut.act.zeroed⟩
  have axes := cut.act.axes x
  rwa [Part.formLines_act, Acting.formLines_axes] at axes

/-- Settles O14: the sampling instant cuts the part off, and the line set's arrivals keep it so. -/
theorem estopCutsEveryAxisOff : Obligations.EstopCutsEveryAxisOff := by
  intro s pins hl hoff hon
  have cut : s.part.CutFrom (s.settled (s.part.sampleLines pins)).part := (Part.sampleLines_cutFrom hoff hon).settle
  refine ⟨s.settled (s.part.sampleLines pins), exec_inputSample hl pins, rfl, cut.tab, cut.estop, cut.permit,
    cut.act.axes, cut.act.search, cut.act.seq, fun hm hd => ?_⟩
  have zeroed := cut.act.zeroed hm hd
  exact ⟨fun x f hf => congrArg Frame.payload (zeroed.waits x f hf), zeroed.sends⟩

end Sys2Proof.Machine
end

section
/-! SUPPORT. The drive demands under a permit set (R71, R73, R74, R77): what the law of an axis's v_prev needs of each
change of its record, that every DEMAND which waits carries its axis's v_prev, and that a change of the permit set
stops the axes that may no longer move (R78). -/

namespace Sys2Proof.Machine

/-! ### The rate of one axis -/

/-- R73, R74: the states in which a v_prev other than 0 may stand. -/
abbrev AxisState.MayMove (st : AxisState) : Prop := st = .moving ∨ st = .atGoal ∨ st = .jogging ∨ st = .stopping

theorem hasDirection_zero (d : Direction) : hasDirection 0 d = false := BitVec.getLsbD_zero

theorem MotionRecord.rate_within (m : MotionRecord) (vPrev raw : Int) :
    -(m.vmax : Int) ≤ m.rate vPrev raw ∧ m.rate vPrev raw ≤ m.vmax := by
  unfold MotionRecord.rate clampTo
  dsimp only
  omega

/-- R74: a rate that is not blocked has its direction in the permit set. -/
theorem Ctx.permitted_of_not_blocks {c : Ctx} {x : Axis} {v : Int} (h : c.blocks x v = false) (hv : v ≠ 0) :
    hasDirection c.sen.permit (directionOf x v) = true := by
  simp only [Ctx.blocks, hv, ne_eq, not_false_eq_true, decide_true, Bool.true_and, Bool.or_eq_false_iff,
    Bool.not_eq_false'] at h
  exact h.1.1.1

namespace AxisRun

theorem cutOff_vPrev (r : AxisRun) : r.cutOff.vPrev = 0 := by
  unfold cutOff
  split <;> rfl

theorem settledAt_vPrev (m : MotionRecord) (run : Nat) (r : AxisRun) : (r.settledAt m run).vPrev = r.vPrev := by
  unfold settledAt
  split <;> rfl

theorem settledAt_mayMove (m : MotionRecord) (run : Nat) {r : AxisRun} (h : r.state.MayMove) :
    (r.settledAt m run).state.MayMove := by
  unfold settledAt
  split
  · exact .inr (.inl rfl)
  · exact h

theorem stallWatch_vPrev (g : GuardRecord) (before : AxisState) (p : Int) (r : AxisRun) :
    (r.stallWatch g before p).vPrev = r.vPrev := by
  unfold stallWatch
  repeat' split
  all_goals rfl

/-- R75: a blocked step leaves no rate. -/
theorem outcome_blocked_vPrev (m : MotionRecord) (p raw v : Int) (r : AxisRun) :
    (r.outcome m p raw v true).vPrev = 0 := by
  unfold outcome
  dsimp only
  simp only [if_true, true_or]
  repeat' split
  all_goals simp only [settledAt_vPrev]

end AxisRun

namespace AxisRun.rateLaw

variable {c : Ctx} {x : Axis} {r r' : AxisRun} {v : Int}

/-- An axis whose v_prev is 0 keeps the law in every state. -/
theorem of_zero (h : r.vPrev = 0) : r.rateLaw c x := ⟨by omega, by omega, fun hn => absurd h hn⟩

/-- The rate stays, and an axis with one stays in a state that may move. -/
theorem coast (h : r.rateLaw c x) (hv : r'.vPrev = r.vPrev)
    (hs : r.vPrev ≠ 0 → r.state.MayMove → r'.state.MayMove) : r'.rateLaw c x := by
  obtain ⟨lo, hi, permitted⟩ := h
  refine ⟨hv ▸ lo, hv ▸ hi, fun hn => ?_⟩
  obtain ⟨direction, moves⟩ := permitted (hv ▸ hn)
  exact ⟨hv ▸ direction, hs (hv ▸ hn) moves⟩

/-- R54, R74: with an empty permit set no axis has a rate. -/
theorem vPrev_eq_zero (h : r.rateLaw c x) (h0 : c.sen.permit = 0) : r.vPrev = 0 := by
  by_contra hn
  obtain ⟨direction, _⟩ := h.2.2 hn
  rw [h0, hasDirection_zero] at direction
  cases direction

/-- R73: only an axis in a state that may move has a rate. -/
theorem vPrev_of_still (h : r.rateLaw c x) (hs : ¬r.state.MayMove) : r.vPrev = 0 :=
  by_contra fun hn => hs (h.2.2 hn).2

/-- The law speaks of vmax and of the permit set. -/
theorem congr {c' : Ctx} (h : r.rateLaw c x) (hm : (c'.tab.motion.get x).vmax = (c.tab.motion.get x).vmax)
    (hp : c'.sen.permit = c.sen.permit) : r.rateLaw c' x := by
  unfold AxisRun.rateLaw
  rw [hm, hp]
  exact h

/-! ### Each change of an axis record -/

theorem claimed (h : r.rateLaw c x) (m : MotionRecord) (o : Owner) (g : Int) : (r.claimed m o g).rateLaw c x := by
  refine h.coast (r.claimed_vPrev m o g) fun _ moves => ?_
  unfold AxisRun.claimed
  dsimp only
  split
  · exact moves
  · exact .inl rfl

theorem released (h : r.rateLaw c x) : r.released.rateLaw c x := by
  refine h.coast r.released_vPrev fun _ moves => ?_
  unfold AxisRun.released
  split
  · exact .inr (.inr (.inr rfl))
  · exact .inr (.inr (.inr rfl))
  · exact moves

theorem stoppedBy (h : r.rateLaw c x) : r.stoppedBy.rateLaw c x := by
  refine h.coast r.stoppedBy_vPrev fun hn moves => ?_
  have stopping : (r.enter (if r.vPrev = 0 then .stopped else .stopping)).state.MayMove := by
    rw [if_neg hn]
    exact .inr (.inr (.inr rfl))
  unfold AxisRun.stoppedBy
  split
  all_goals assumption

/-- R75, R76: a step that forms a rate within -vmax..+vmax, in the permit set, and not blocked. -/
theorem outcome (lo : -((c.tab.motion.get x).vmax : Int) ≤ v) (hi : v ≤ (c.tab.motion.get x).vmax)
    (hp : v ≠ 0 → hasDirection c.sen.permit (directionOf x v) = true) (m : MotionRecord) (p raw : Int) (r : AxisRun) :
    (r.outcome m p raw v false).rateLaw c x := by
  have rolls : ∀ r' : AxisRun, r'.vPrev = v → r'.state.MayMove → r'.rateLaw c x :=
    fun r' hv hs => ⟨hv ▸ lo, hv ▸ hi, fun hn => ⟨hv ▸ hp (hv ▸ hn), hs⟩⟩
  have settles : ∀ (r' : AxisRun) (run : Nat), r'.vPrev = v → r'.state.MayMove → (r'.settledAt m run).rateLaw c x :=
    fun r' run hv hs => rolls _ ((AxisRun.settledAt_vPrev m run r').trans hv) (AxisRun.settledAt_mayMove m run hs)
  unfold AxisRun.outcome
  dsimp only
  simp only [Bool.false_eq_true, if_false, false_or]
  split
  · exact of_zero rfl
  · exact of_zero rfl
  next hs => exact settles _ _ rfl (.inl hs)
  next hs =>
    split
    · exact rolls _ rfl (.inr (.inl hs))
    · exact rolls _ rfl (.inl rfl)
  next hs => exact rolls _ rfl (.inr (.inr (.inl hs)))
  next hs =>
    split
    · exact of_zero rfl
    · exact rolls _ rfl (.inr (.inr (.inr hs)))
  next hs =>
    split
    · exact of_zero rfl
    · split
      · exact of_zero (AxisRun.settledAt_vPrev m 1 _)
      · exact rolls _ rfl (.inl rfl)

theorem stallWatch (h : r.rateLaw c x) (g : GuardRecord) (before : AxisState) (p : Int) :
    (r.stallWatch g before p).rateLaw c x :=
  h.coast (r.stallWatch_vPrev g before p) fun _ moves => by rwa [Acting.Reach.stallWatch_state]

/-- R71 to R76: a servo step leaves a rate that the law allows. -/
theorem servo (c : Ctx) (x : Axis) (r : AxisRun) : (r.servo c x).rateLaw c x := by
  obtain ⟨lo, hi⟩ := (c.tab.motion.get x).rate_within r.vPrev (r.rawDemand (c.tab.motion.get x) (c.pos x))
  unfold AxisRun.servo
  dsimp only
  refine stallWatch ?_ _ _ _
  cases hb : c.blocks x ((c.tab.motion.get x).rate r.vPrev (r.rawDemand (c.tab.motion.get x) (c.pos x)))
  case false => exact outcome lo hi (Ctx.permitted_of_not_blocks hb) _ _ _ r
  case true => exact of_zero (r.outcome_blocked_vPrev _ _ _ _)

/-- Every change of an axis record keeps the law. -/
theorem moved {w : Option Int} (h : r.rateLaw c x) (hr : AxisRun.Moved c x r r' w) : r'.rateLaw c x := by
  cases hr with
  | same => exact h
  | claimed o g => exact h.claimed _ o g
  | jogged rate => exact h.coast rfl fun _ _ => .inr (.inr (.inl rfl))
  | released => exact h.released
  | stopped => exact h.stoppedBy
  | cleared => exact of_zero rfl
  | cutOff => exact of_zero r.cutOff_vPrev
  | held => exact of_zero r.held_vPrev
  | faulted => exact of_zero rfl
  | zeroed => exact of_zero rfl
  | started => exact of_zero rfl
  | servo => exact servo c x r

/-- R73, R77: the DEMAND that a change sends carries the v_prev that it leaves, and a change that sends none leaves
v_prev as it was. In UNCONFIGURED, where an immediate zero sends none (log 11), the permit set is empty. -/
theorem moved_vPrev {w : Option Int} (h : r.rateLaw c x) (h0 : c.operating = false → c.sen.permit = 0)
    (hr : AxisRun.Moved c x r r' w) : r'.vPrev = w.getD r.vPrev := by
  have zero : r'.vPrev = 0 → r'.vPrev = (zeroRate c).getD r.vPrev := fun hz => by
    unfold zeroRate
    split
    · exact hz
    next ho => exact hz.trans (h.vPrev_eq_zero (h0 (Bool.eq_false_iff.2 ho))).symm
  cases hr with
  | same => rfl
  | claimed o g => exact r.claimed_vPrev _ o g
  | jogged => rfl
  | released => exact r.released_vPrev
  | stopped => exact r.stoppedBy_vPrev
  | cleared _ hf => exact (h.vPrev_of_still (by rw [hf]; decide)).symm
  | cutOff => exact zero r.cutOff_vPrev
  | held => exact zero r.held_vPrev
  | faulted => exact zero rfl
  | zeroed => exact zero rfl
  | started => exact zero rfl
  | servo => rfl

end AxisRun.rateLaw

/-! ### The DEMANDs that wait -/

namespace Output

variable {t t' : Tables} {u u' : Axis → Int} {o o' : Output}

/-- R73, R77, R176: every waiting DEMAND carries the rate of its axis, and at a CLOSED port D nothing waits. -/
structure Carries (t : Tables) (u : Axis → Int) (o : Output) : Prop where
  waits : ∀ x f, DEntry.demand x f ∈ o.driveQueue → f.payload = [Word.ofInt (u x)]
  shut : t.ports.d.state = .closed → o.driveQueue = []

namespace Carries

theorem of_nil (h : o.driveQueue = []) : o.Carries t u :=
  ⟨fun _ _ hf => absurd (h ▸ hf) List.not_mem_nil, fun _ => h⟩

/-- A queue with no DEMAND that did not wait before, at a port D that is in the same state. -/
theorem congr (h : o.Carries t u) (rates : ∀ x, u' x = u x)
    (port : t'.ports.d.state = .closed → t.ports.d.state = .closed) (sub : o'.driveQueue ⊆ o.driveQueue) :
    o'.Carries t' u' :=
  ⟨fun x f hf => by rw [rates]; exact h.waits x f (sub hf),
   fun hd => List.subset_nil.1 (h.shut (port hd) ▸ sub)⟩

theorem of_onlyC (h : o.Carries t u) (ho : o.OnlyC o') : o'.Carries t u :=
  h.congr (fun _ => rfl) id (ho.driveQueue ▸ List.Subset.refl _)

/-- R77, R169: a DEMAND that is placed takes the place of those of its axis; at a CLOSED port D it is dropped. -/
theorem sendDemand (h : o.Carries t u) (v : List Word) (x : Axis) (rate : Int) (hu : ∀ y, y ≠ x → u' y = u y)
    (hx : u' x = rate) : (o.sendDemand t v x rate).Carries t u' := by
  by_cases hd : t.ports.d.state = .closed
  · have dropped : o.OnlyC (o.sendDemand t v x rate) := by
      unfold Output.sendDemand
      dsimp only
      rw [if_pos hd]
      exact .drop t v _ o
    exact of_nil (dropped.driveQueue.trans (h.shut hd))
  · refine ⟨fun y f hf => ?_, fun hd' => absurd hd' hd⟩
    rcases of_mem_insertDemand (sendDemand_driveQueue_subset hd v x rate o hf) with ⟨rfl, rfl⟩ | ⟨hy, hm⟩
    · rw [hx]
      rfl
    · rw [hu y hy]
      exact h.waits y f hm

end Carries

end Output

/-! ### What leaves and what enters the queue of port D -/

namespace Output

theorem transmitC_driveQueue (t : Tables) (v : List Word) (e : CEntry) (o : Output) :
    (o.transmitC t v e).driveQueue = o.driveQueue := by
  unfold transmitC
  split <;> rfl

/-- R174: a port that takes its next frame puts none in the queue of port D. -/
theorem takeNext_driveQueue_subset (t : Tables) (v : List Word) (k : Port) (o : Output) :
    (o.takeNext t v k).driveQueue ⊆ o.driveQueue := by
  cases k
  case d =>
    simp only [takeNext]
    split
    next e rest hq => exact hq ▸ List.subset_cons_self e rest
    · exact List.Subset.refl _
  all_goals
    simp only [takeNext]
    split <;> simp [transmitC_driveQueue]

theorem startIfIdle_driveQueue_subset_of_port (t : Tables) (v : List Word) (k : Port) (o : Output) :
    (o.startIfIdle t v k).driveQueue ⊆ o.driveQueue := by
  unfold startIfIdle
  split
  · exact takeNext_driveQueue_subset t v k o
  · exact List.Subset.refl _

theorem complete_driveQueue_subset (t : Tables) (v : List Word) (k : Port) (o : Output) :
    (o.complete t v k).driveQueue ⊆ o.driveQueue := by
  unfold complete
  split
  · exact takeNext_driveQueue_subset t v k _
  · exact List.Subset.refl _

/-- R152: at a change of port state frames only leave the queue of port D. -/
theorem judgeWaiting_driveQueue_subset (t : Tables) (v : List Word) (k : Port) (st : PortState) (o : Output) :
    (o.judgeWaiting t v k st).driveQueue ⊆ o.driveQueue := by
  cases st <;> cases k <;> simp [judgeWaiting, (OnlyC.dropAll _ _ _ _).driveQueue]

/-- R152: at a port D that goes into CLOSED nothing waits. -/
theorem judgeWaiting_closed (t : Tables) (v : List Word) (o : Output) :
    (o.judgeWaiting t v .d .closed).driveQueue = [] := (OnlyC.dropAll t v _ _).driveQueue

namespace Carries

variable {t t₀ : Tables} {u : Axis → Int} {o : Output}

/-- R152: the frames that wait are judged when the state of a port has changed. -/
theorem judgeWaiting (h : o.Carries t₀ u) (v : List Word) (k : Port)
    (other : k ≠ .d → t.ports.d.state = t₀.ports.d.state) :
    (o.judgeWaiting t v k (t.ports.get k).state).Carries t u := by
  by_cases hk : k = .d ∧ t.ports.d.state = .closed
  · obtain ⟨rfl, closed⟩ := hk
    refine of_nil ?_
    rw [PerPort.get_d, closed]
    exact judgeWaiting_closed t v o
  · refine h.congr (fun _ => rfl) (fun closed => ?_) (judgeWaiting_driveQueue_subset t v k _ o)
    rw [← other fun hd => hk ⟨hd, closed⟩]
    exact closed

/-- R162, R169: NODE_DATA that is forwarded to port D waits with the DEMANDs. -/
theorem forward (h : o.Carries t u) (v : List Word) {k : Port} (hk : k = .d → t.ports.d.state ≠ .closed) (f : Frame) :
    (o.forward t v k f).Carries t u := by
  cases k
  case c => exact h.of_onlyC (.placeC t v _ _ o)
  case s =>
    unfold Output.forward
    dsimp only
    split
    · exact h.congr (fun _ => rfl) id (startIfIdle_driveQueue_subset_of_port t v .s _)
    · exact h.of_onlyC (.drop t v _ o)
  case d =>
    unfold Output.forward
    dsimp only
    split
    · refine ⟨fun x g hg => h.waits x g ?_, fun closed => absurd closed (hk rfl)⟩
      simpa using startIfIdle_driveQueue_subset_of_port t v .d _ hg
    · exact h.of_onlyC (.drop t v _ o)

end Carries

end Output

/-! ### The DEMANDs of a change of axis records -/

namespace Acting

variable {c : Ctx} {a b : Acting}

theorem carries_sendOne {u u' : Axis → Int} {rate : Axis → Option Int} (h : a.out.Carries c.tab u) (x : Axis)
    (hu : ∀ y, y ≠ x → u' y = u y) (hx : u' x = (rate x).getD (u x)) : (a.sendOne c rate x).out.Carries c.tab u' := by
  unfold sendOne
  cases hr : rate x with
  | some v => exact h.sendDemand _ x v hu (by rw [hx, hr]; rfl)
  | none =>
    refine h.congr (fun y => ?_) id (List.Subset.refl _)
    by_cases hy : y = x
    · subst hy
      rw [hx, hr]
      rfl
    · exact hu y hy

/-- R77: the DEMANDs that one event sends leave the queue with the rates they carry. -/
theorem carries_sendDemands {u u' : Axis → Int} {rate : Axis → Option Int} (h : a.out.Carries c.tab u)
    (hu : ∀ x, u' x = (rate x).getD (u x)) : (a.sendDemands c rate).out.Carries c.tab u' := by
  have mast : (a.sendOne c rate .mast).out.Carries c.tab fun x => if x = .mast then u' x else u x :=
    carries_sendOne h .mast (fun y hy => if_neg hy) ((if_pos rfl).trans (hu .mast))
  have pan : ((a.sendOne c rate .mast).sendOne c rate .pan).out.Carries c.tab fun x => if x = .tilt then u x else u' x :=
    carries_sendOne mast .pan (fun | .mast, _ => rfl | .pan, hy => absurd rfl hy | .tilt, _ => rfl) (hu .pan)
  exact carries_sendOne pan .tilt (fun y hy => (if_neg hy).symm) (hu .tilt)

theorem carries_shift {u : Axis → Int} {rate : Axis → Option Int} (h : a.out.Carries c.tab u)
    (f : Axis → AxisRun → AxisRun) : (a.shift c rate f).out.Carries c.tab fun x => (rate x).getD (u x) := by
  unfold shift
  refine Output.Carries.of_onlyC (carries_sendDemands (u := u) ?_ fun _ => rfl) (reportAxes_onlyC _ _ _)
  rw [setAxes_out]
  exact h

end Acting

/-! ### The axes that a new permit set stops (R78) -/

namespace Acting

/-- R78: the change of axis records by which a new permit set stops the axes whose direction it has lost. -/
def permitHeld (c : Ctx) (old : BitVec 7) (a : Acting) : Acting :=
  a.shift c (immediateZeros c fun x => lostDirection old c.sen.permit x (a.axes.get x))
    fun x r => if lostDirection old c.sen.permit x (a.axes.get x) then r.held else r

theorem permitHeld_get (c : Ctx) (old : BitVec 7) (a : Acting) (x : Axis) : (a.permitHeld c old).axes.get x =
    if lostDirection old c.sen.permit x (a.axes.get x) then (a.axes.get x).held else a.axes.get x :=
  shift_get _ _ _ _ _

theorem lostDirection_iff {old new : BitVec 7} {x : Axis} {r : AxisRun} : lostDirection old new x r = true ↔
    r.vPrev ≠ 0 ∧ hasDirection old (directionOf x r.vPrev) = true ∧ hasDirection new (directionOf x r.vPrev) = false := by
  simp only [lostDirection, Bool.and_eq_true, decide_eq_true_eq, Bool.not_eq_true', and_assoc]

end Acting

/-! ### The acting side -/

/-- R71, R73, R74: every axis moves as the permit set allows, and what waits for its drive is its v_prev. -/
structure Acting.Driven (c : Ctx) (a : Acting) : Prop where
  rate : ∀ x, (a.axes.get x).rateLaw c x
  out : a.out.Carries c.tab fun x => (a.axes.get x).vPrev

/-- R54, R178: in UNCONFIGURED the permit set is empty. -/
abbrev Ctx.Quiet (c : Ctx) : Prop := c.operating = false → c.sen.permit = 0

namespace Acting.Driven

variable {c : Ctx} {a b : Acting}

/-- A change of axis records that sends each new v_prev; the permit set may be another than before it. -/
theorem shift {c₀ : Ctx} {rate : Axis → Option Int} {f : Axis → AxisRun → AxisRun} (h : a.Driven c₀)
    (ht : c₀.tab = c.tab) (hr : ∀ x, (f x (a.axes.get x)).rateLaw c x)
    (hv : ∀ x, (f x (a.axes.get x)).vPrev = (rate x).getD (a.axes.get x).vPrev) : (a.shift c rate f).Driven c := by
  refine ⟨fun x => by rw [shift_get]; exact hr x, ?_⟩
  refine (carries_shift (ht ▸ h.out) f).congr (fun x => ?_) id (List.Subset.refl _)
  rw [shift_get]
  exact hv x

/-- The law speaks of the axes' states and rates and of what waits for port D. -/
theorem congr (h : a.Driven c) (vPrev : ∀ x, (b.axes.get x).vPrev = (a.axes.get x).vPrev)
    (state : ∀ x, (b.axes.get x).state = (a.axes.get x).state) (queue : b.out.driveQueue ⊆ a.out.driveQueue) :
    b.Driven c :=
  ⟨fun x => (h.rate x).coast (vPrev x) fun _ moves => (state x).symm ▸ moves, h.out.congr vPrev id queue⟩

/-- An operation that places nothing for port D. -/
theorem emit {f : Tables → List Word → Output → Output} (h : a.Driven c) (hf : ∀ t v (o : Output), o.OnlyC (f t v o)) :
    (a.emit c f).Driven c := ⟨h.rate, h.out.of_onlyC (hf _ _ _)⟩

/-- Every change of the acting side that axis control, the search, pointing and the sequencer make keeps the law. -/
theorem reach (h : a.Driven c) (hq : c.Quiet) (hr : Acting.Reach c a b) : b.Driven c := by
  refine hr.keeps (P := fun d => d.Driven c) h ?_ ?_ ?_ ?_ ?_ ?_ ?_ ?_
  · exact fun d rate f moved hd => hd.shift rfl (fun x => (hd.rate x).moved (moved x))
      fun x => (hd.rate x).moved_vPrev hq (moved x)
  · intro d x f same hd
    refine hd.congr (fun y => ?_) (fun y => ?_) (List.Subset.refl _) <;> rw [tune_axes] <;> by_cases hy : y = x
    · rw [hy, PerAxis.get_set_self, same.vPrev]
    · rw [PerAxis.get_set_of_ne _ hy]
    · rw [hy, PerAxis.get_set_self, same.state]
    · rw [PerAxis.get_set_of_ne _ hy]
  · exact fun _ _ hd => ⟨hd.rate, hd.out⟩
  · exact fun _ _ hd => ⟨hd.rate, hd.out⟩
  · exact fun _ _ hd => ⟨hd.rate, hd.out⟩
  · exact fun _ _ _ hd => hd.emit fun _ _ _ => .raise _ _ _ _ _
  · exact fun _ hd => hd.emit fun _ _ _ => .requestStatus _ _ _
  · exact fun _ _ _ _ _ hd => hd.emit fun _ _ _ => .placeC _ _ _ _ _

/-- R78: the axes that a new permit set stops are those whose rate it no longer allows. -/
theorem seePermit {permit : BitVec 7} (h : a.Driven c) (hq : c.Quiet)
    (hq' : c.operating = false → permit = 0) :
    (a.seePermit ⟨c.tab, { c.sen with permit := permit }⟩ c.sen.permit).Driven
      ⟨c.tab, { c.sen with permit := permit }⟩ := by
  set c' : Ctx := ⟨c.tab, { c.sen with permit := permit }⟩
  have held : (a.permitHeld c' c.sen.permit).Driven c' := by
    refine h.shift rfl (fun x => ?_) fun x => ?_
    · split
      · exact .of_zero (a.axes.get x).held_vPrev
      next kept =>
        obtain ⟨lo, hi, permitted⟩ := h.rate x
        refine ⟨lo, hi, fun hn => ⟨by_contra fun lost => kept ?_, (permitted hn).2⟩⟩
        exact lostDirection_iff.2 ⟨hn, (permitted hn).1, Bool.eq_false_iff.2 lost⟩
    · split
      next lost =>
        obtain ⟨moves, _⟩ := lostDirection_iff.1 lost
        have on : c'.operating = true := by
          by_contra off
          exact moves ((h.rate x).vPrev_eq_zero (hq (Bool.eq_false_iff.2 off)))
        rw [immediateZeros, on, lost]
        exact (a.axes.get x).held_vPrev
      next kept =>
        rw [immediateZeros, Bool.eq_false_iff.2 kept, Bool.and_false]
        rfl
  exact held.reach hq' (.trans (.trans (.handAxes _ _) (.searchSeesPermit _ _)) (.status _))

end Acting.Driven

end Sys2Proof.Machine
end

section
/-! PROOFS. O59: the laws of the drive demands and the permit set (R54, R71, R73, R74). -/

namespace Sys2Proof.Machine

/-! ### The part -/

theorem Sensed.estop_congr {s s' : Sensed} (h : s'.filters = s.filters) : s'.estop = s.estop := by
  unfold Sensed.estop
  rw [h]

theorem Ctx.operating_eq_false {c : Ctx} : c.operating = false ↔ c.sen.mode = .unconfigured := by
  unfold Ctx.operating
  cases c.sen.mode <;> decide

namespace Part

variable {p q : Part}

/-- R54: the permit set is formed from the mode, ESTOP, the active rules and the groups. -/
theorem permitSet_congr (mode : q.sen.mode = p.sen.mode) (estop : q.sen.estop = p.sen.estop)
    (rules : q.tab.activeRules = p.tab.activeRules) (groups : q.sen.groups = p.sen.groups) :
    q.ctx.permitSet = p.ctx.permitSet := by
  unfold Ctx.permitSet Ctx.operating Part.ctx
  dsimp only
  rw [mode, estop, rules, groups]

/-- The axes move, and what waits for the drives is, as the permit set that stands allows. -/
structure Drives (p : Part) : Prop where
  quiet : p.ctx.Quiet
  act : p.act.Driven p.ctx

/-- The law of the drive demands: the part drives under its permit set, and that is the set of the rule. -/
structure Governed (p : Part) : Prop where
  permit : p.permitLaw
  act : p.act.Driven p.ctx

theorem rateLaw_iff : p.rateLaw ↔ p.Governed := by
  constructor
  · rintro ⟨permit, mast, pan, tilt, waits, shut⟩
    refine ⟨permit, fun x => by cases x <;> assumption, fun x f hf => ?_, shut⟩
    simpa using List.all_eq_true.1 waits _ hf
  · rintro ⟨permit, act⟩
    refine ⟨permit, act.rate .mast, act.rate .pan, act.rate .tilt, List.all_eq_true.2 fun e he => ?_, act.out.shut⟩
    cases e with
    | demand x f => exact decide_eq_true (act.out.waits x f he)
    | data f => rfl

theorem Governed.drives (h : p.Governed) : p.Drives :=
  ⟨fun off => h.permit.trans (Ctx.permitSet_unconfigured (Ctx.operating_eq_false.1 off)), h.act⟩

/-- R55: the permit set that is formed is the set of the rule. -/
theorem formPermit_permitLaw (p : Part) : p.formPermit.permitLaw := by
  unfold Part.permitLaw Part.ctx
  rw [formPermit_sen, (SameSense.formPermit p).tab]
  rfl

namespace Drives

/-- What the law speaks of: vmax, the state of port D, the permit set, the rates and states of the axes, and the queue
of port D; the mode may become OPERATING. -/
structure Same (p q : Part) : Prop where
  vmax : ∀ x, (q.tab.motion.get x).vmax = (p.tab.motion.get x).vmax := by intro; rfl
  portD : q.tab.ports.d.state = .closed → p.tab.ports.d.state = .closed := by exact id
  mode : q.sen.mode = .unconfigured → p.sen.mode = .unconfigured := by exact id
  permit : q.sen.permit = p.sen.permit := by rfl
  vPrev : ∀ x, (q.act.axes.get x).vPrev = (p.act.axes.get x).vPrev := by intro; rfl
  state : ∀ x, (q.act.axes.get x).state = (p.act.axes.get x).state := by intro; rfl
  queue : q.act.out.driveQueue ⊆ p.act.out.driveQueue := by exact List.Subset.refl _

theorem same (h : p.Drives) (s : Same p q) : q.Drives where
  quiet off := s.permit.trans (h.quiet (Ctx.operating_eq_false.2 (s.mode (Ctx.operating_eq_false.1 off))))
  act := by
    refine ⟨fun x => ((h.act.rate x).congr (s.vmax x) s.permit).coast (s.vPrev x) fun _ moves => ?_, ?_⟩
    · rw [s.state]
      exact moves
    · exact h.act.out.congr s.vPrev s.portD s.queue

theorem reach (h : p.Drives) {a : Acting} (hr : Acting.Reach p.ctx p.act a) : Drives { p with act := a } :=
  ⟨h.quiet, h.act.reach h.quiet hr⟩

theorem formLines (h : p.Drives) : p.formLines.Drives := by
  refine h.same { vPrev := fun x => ?_, state := fun x => ?_, queue := ?_ } <;>
    simp only [formLines_act, Acting.formLines_axes, Acting.formLines_out, List.Subset.refl]

/-- R55, R78: the permit set is formed, and the axes that it no longer lets move are stopped. -/
theorem formPermit (h : p.Drives) : p.formPermit.Governed := by
  refine ⟨p.formPermit_permitLaw, ?_⟩
  unfold Part.formPermit
  dsimp only
  split
  · exact h.act
  · exact h.act.seePermit h.quiet fun off => Ctx.permitSet_unconfigured (Ctx.operating_eq_false.1 off)

/-- R48: an evaluation, whatever groups it finds. -/
theorem evaluate (h : p.Drives) (concerned : Group → Bool) : (p.evaluate concerned).Governed :=
  ⟨evaluate_permit concerned p, Drives.act <| evaluate_keeps (P := Drives)
    (fun q gs hq => (hq.same (q := { q with sen := { q.sen with groups := gs } }) {}).formLines.formPermit.drives)
    (fun _ _ hr hq => hq.reach hr) concerned h⟩

theorem takeLines (h : p.Drives) (v : Int) : (p.takeLines v).Governed :=
  evaluate (p := { p with sen := p.sen.writeLines v }) (h.same {}) _

end Drives

namespace Governed

theorem same (h : p.Governed) (s : Drives.Same p q) (permitSet : q.ctx.permitSet = p.ctx.permitSet := by
      exact permitSet_congr rfl (Sensed.estop_congr rfl) rfl rfl) :
    q.Governed := ⟨(s.permit.trans h.permit).trans permitSet.symm, (h.drives.same s).act⟩

theorem reach (h : p.Governed) {a : Acting} (hr : Acting.Reach p.ctx p.act a) : Governed { p with act := a } :=
  ⟨h.permit, h.act.reach h.drives.quiet hr⟩

theorem acting (h : p.Governed) {f : Ctx → Acting → Acting} (hf : ∀ c a, Acting.Reach c a (f c a)) :
    (p.acting f).Governed := h.reach (hf _ _)

theorem doing (h : p.Governed) {f : Ctx → Acting → Acting × Result} (hf : ∀ c a, Acting.Reach c a (f c a).1) :
    (p.doing f).1.Governed := h.reach (hf _ _)

theorem reply (h : p.Governed) (n : Node) (k : Kind) (r : Result) (ws : List Word) : (p.reply n k r ws).Governed :=
  h.acting fun _ a => .reply a n k r ws

theorem answer (f : Frame) {r : Part × Result} (h : r.1.Governed) : (answer f r).Governed := h.reply _ _ _ _

theorem emit (h : p.Governed) {f : Tables → List Word → Output → Output} (hf : ∀ t v (o : Output), o.OnlyC (f t v o)) :
    (p.acting fun c a => a.emit c f).Governed := ⟨h.permit, h.act.emit hf⟩

theorem drop (h : p.Governed) (d : DropRecord) : (p.drop d).Governed := h.emit fun t v o => .drop t v d o

theorem formLines (h : p.Governed) : p.formLines.Governed := ⟨h.permit, h.drives.formLines.act⟩

theorem writeLines (h : p.Governed) (v : Int) (rest : List Int) :
    Governed { p with act := { p.act with lineWrites := rest }, sen := p.sen.writeLines v } := by
  unfold Sensed.writeLines
  exact h.same {}

/-- R23, R48: the line set's arrivals. -/
theorem settle (h : p.Governed) : p.settle.Governed :=
  settle_keeps (P := Governed) (fun _ hq => hq.formLines) (fun _ v rest _ hq => hq.writeLines v rest)
    (fun q gs hq =>
      (hq.drives.same (q := { q with sen := { q.sen with groups := gs } }) {}).formLines.formPermit)
    (fun _ _ hr hq => hq.reach hr) h

/-! ### The sensor image and the lines -/

theorem told (h : p.Governed) (q : Fin 24) : (p.told q).Governed := h.formLines.drives.evaluate _

theorem valueTaken (h : p.Governed) (q : Fin 24) (v : Int) : (p.valueTaken q v).Governed := by
  unfold Part.valueTaken
  dsimp only
  split
  · exact ((h.told q).acting fun _ a => .searchLevel a v).settle
  · exact (h.told q).settle

theorem staleActs_reach (q : Fin 24) (p : Part) : Acting.Reach p.ctx p.act (p.staleActs q) := by
  unfold staleActs
  repeat' split
  · exact .losePosition _ _
  · exact .trans (.losePosition _ _) (.guardMast _)
  · exact .trans (.losePosition _ _) (.guardMast _)
  · exact .enterCause _ _
  · exact .refl _

theorem wentStale (h : p.Governed) (q : Fin 24) : (p.wentStale q).Governed := by
  rw [wentStale_eq]
  exact (h.told q).reach (staleActs_reach q _)

theorem takePair (h : p.Governed) (sender : Node) (q : Fin 24) (v : Int) : (p.takePair sender q v).Governed := by
  unfold Part.takePair
  dsimp only
  split
  · exact valueTaken (h.same {}) q v
  · exact h.same {}

theorem takePairs (sender : Node) : ∀ (ws : List Word) (p : Part), p.Governed → (p.takePairs sender ws).Governed
  | [], _, h => h
  | [_], _, h => h
  | _ :: _ :: rest, _, h => takePairs sender rest _ (h.takePair sender _ _)

theorem ageExpired (h : p.Governed) (q : Fin 24) : (p.ageExpired q).Governed := by
  unfold Part.ageExpired
  dsimp only
  split
  · exact wentStale (h.same {}) q
  · exact h

/-- R24, R79: a change of ESTOP, which the permit set does not know yet. -/
theorem estopChanged (h : p.Drives) : p.estopChanged.Governed := by
  have cut : (if p.sen.estop then p.acting Acting.cutOffAll else p).Drives := by
    split
    · exact h.reach (.cutOffAll _)
    · exact h
  unfold Part.estopChanged
  exact cut.formPermit.acting fun _ a => .raise a _ _

/-- R22, R24: at a sampling instant that leaves ESTOP as it was the permit set of the rule is as it was. -/
theorem sampleLines (h : p.Governed) (pins : BitVec 8) : (p.sampleLines pins).Governed := by
  by_cases he : (p.sampled pins).sen.estop = p.sen.estop
  · rw [sampleLines_kept he]
    exact formLines (h.same {} (permitSet_congr rfl he rfl rfl))
  · rw [sampleLines_changed he]
    exact estopChanged (h.drives.same (q := p.sampled pins) {}).formLines

/-! ### The table writes -/

theorem writeNode (h : p.Governed) (i : Int) (fs : List Word) : (p.writeNode i fs).1.Governed := by
  unfold Part.writeNode
  dsimp only
  repeat' split
  exacts [h, h, h, h.same {}]

theorem rangeChanged (h : p.Governed) (q : Fin 24) (e : QuantityEntry) : (p.rangeChanged q e).Governed := by
  unfold Part.rangeChanged
  dsimp only
  split
  · exact wentStale (h.same {}) q
  · exact h

theorem writeQuantity (h : p.Governed) (i : Int) (fs : List Word) : (p.writeQuantity i fs).1.Governed := by
  unfold Part.writeQuantity
  dsimp only
  repeat' split
  · exact h
  · exact h
  · exact h
  · exact rangeChanged (h.same {}) _ _

/-- R37: a rule of the active bank is not written. -/
theorem activeRules_setRule {t : Tables} {which : Bank} (hw : t.active ≠ which) (k : Fin 48) (r : Rule) :
    (t.setRule which k r).activeRules = t.activeRules := by
  unfold Tables.activeRules Tables.setRule Tables.bank
  cases which <;> cases ha : t.active <;> simp_all

theorem writeRule (h : p.Governed) (which : Bank) (i : Int) (fs : List Word) : (p.writeRule which i fs).1.Governed := by
  unfold Part.writeRule
  split
  · exact h
  split
  · exact h
  next hw =>
    split
    · exact h
    next r _ =>
      refine h.same ?_ (permitSet_congr rfl rfl (activeRules_setRule hw _ r) rfl)
      cases which <;> exact {}

/-- R62: an axis whose motion record may be written stands still. -/
theorem writeMotion (h : p.Governed) (i : Int) (fs : List Word) : (p.writeMotion i fs).1.Governed := by
  unfold Part.writeMotion
  split
  · exact h
  next x _ =>
    split
    · exact h
    next hw =>
      split
      · exact h
      next m _ =>
        dsimp only
        split
        · refine ⟨h.permit, fun y => ?_, ⟨h.act.out.waits, h.act.out.shut⟩⟩
          by_cases hy : y = x
          · subst hy
            refine .of_zero ((h.act.rate y).vPrev_of_still ?_)
            rcases AxisState.writable_iff.1 (by simpa using hw) with hs | hs <;> rw [hs] <;> decide
          · refine (h.act.rate y).congr ?_ rfl
            rw [ctx_tab, tabled_tab, PerAxis.get_set_of_ne _ hy]
            rfl
        · exact h

/-- R63, R169: the DEMAND for the drive that was named before leaves the queue. -/
theorem newDrive (h : p.Governed) (x : Axis) : (p.acting fun c a => a.newDrive c x).Governed := by
  have tuned : Governed { p with act := p.act.tune x fun r =>
      { r with
        drive := .notReady
        driveAge := if p.ctx.operating then .running (p.ctx.tab.guard.get x).ageTime else r.driveAge } } :=
    h.reach (.tune _ x _ ⟨rfl, rfl, rfl, rfl, rfl, rfl, rfl⟩)
  exact tuned.same { queue := List.filter_subset_self _ }

theorem writeGuard (h : p.Governed) (i : Int) (fs : List Word) : (p.writeGuard i fs).1.Governed := by
  unfold Part.writeGuard
  repeat' split
  · exact h
  · exact h
  · exact h
  · exact h
  next x _ _ _ g _ _ =>
    have written : (p.tabled fun t => { t with guard := t.guard.set x g }).Governed := h.same {}
    dsimp only
    split
    · exact written
    · exact written.newDrive x

theorem writePreset (h : p.Governed) (i : Int) (fs : List Word) : (p.writePreset i fs).1.Governed := by
  unfold Part.writePreset
  repeat' split
  exacts [h, h, h.same {}]

theorem writeSearch (h : p.Governed) (i : Int) (fs : List Word) : (p.writeSearch i fs).1.Governed := by
  unfold Part.writeSearch
  repeat' split
  exacts [h, h, h, h.same {}]

theorem writePointing (h : p.Governed) (i : Int) (fs : List Word) : (p.writePointing i fs).1.Governed := by
  unfold Part.writePointing
  repeat' split
  · exact h
  · exact h
  · exact acting (h.same {}) fun _ a => .guardMast a

/-- R19: the record and the filter of L0, from which ESTOP follows, are not written. -/
theorem writeLine (h : p.Governed) (i : Int) (fs : List Word) : (p.writeLine i fs).1.Governed := by
  unfold Part.writeLine
  repeat' split
  · exact h
  · exact h
  · exact h
  next hi h0 r _ =>
    refine h.same {} (permitSet_congr rfl ?_ rfl rfl)
    have other : (0 : Fin 8) ≠ Fin.ofNat 8 i.toNat := fun e => by
      have : (0 : ℕ) = i.toNat % 8 := congrArg Fin.val e
      omega
    unfold Sensed.estop
    dsimp only
    rw [vector_set_of_ne _ other]

/-- R152: the state of a port changes, and the frames that wait for it are judged anew. -/
theorem portChanged (h : p.Governed) (k : Port) (r : PortRecord) :
    ((p.tabled fun t => { t with ports := t.ports.set k r }).portChanged k (p.tab.ports.get k).state).Governed := by
  set t : Tables := { p.tab with ports := p.tab.ports.set k r } with ht
  have other : k ≠ .d → t.ports.d.state = p.tab.ports.d.state := fun hk =>
    congrArg PortRecord.state (PerPort.get_set_of_ne p.tab.ports (Ne.symm hk) r)
  have judged : Governed { p with
      tab := t, act := { p.act with
        out := p.act.out.judgeWaiting t (statusWords ⟨t, p.sen⟩ p.act) k (t.ports.get k).state } } :=
    ⟨h.permit, h.act.rate, h.act.out.judgeWaiting _ k other⟩
  unfold Part.portChanged
  dsimp only
  split
  next hs =>
    refine h.same { portD := fun closed => ?_ }
    by_cases hk : k = .d
    · subst hk
      exact hs ▸ closed
    · exact other hk ▸ closed
  · split
    · exact judged.acting fun _ a => .reopenDrives a
    · exact judged

theorem writePort (h : p.Governed) (i : Int) (fs : List Word) : (p.writePort i fs).1.Governed := by
  unfold Part.writePort
  repeat' split
  · exact h
  · exact h
  · exact h
  · exact h
  · exact h.portChanged _ _

theorem writeReport (h : p.Governed) (i : Int) (fs : List Word) : (p.writeReport i fs).1.Governed := by
  unfold Part.writeReport
  repeat' split
  exacts [h, h, h.same {}]

theorem tableWrite (h : p.Governed) (ws : List Word) : (p.tableWrite ws).1.Governed := by
  unfold Part.tableWrite
  repeat' split
  · exact h.writeNode _ _
  · exact h.writeQuantity _ _
  · exact h.writeRule _ _ _
  · exact h.writeRule _ _ _
  · exact h.writeMotion _ _
  · exact h.writeGuard _ _
  · exact h.writePreset _ _
  · exact h.writeSearch _ _
  · exact h.writePointing _ _
  · exact h.writeLine _ _
  · exact h.writePort _ _
  · exact h.writeReport _ _
  · exact h
  · exact h

/-! ### The other frames -/

theorem bare (h : p.Governed) (ws : List Word) {f : Ctx → Acting → Acting × Result}
    (hf : ∀ c a, Acting.Reach c a (f c a).1) : (p.bare ws f).1.Governed := by
  unfold Part.bare
  split
  · exact h
  · exact h.doing hf

theorem naming (h : p.Governed) (ws : List Word) {f : (Axis → Bool) → Ctx → Acting → Acting × Result}
    (hf : ∀ named c a, Acting.Reach c a (f named c a).1) : (p.naming ws f).1.Governed := by
  unfold Part.naming
  repeat' split
  · exact h.doing (hf _)
  · exact h
  · exact h

theorem jogFrame (h : p.Governed) (n : Node) (ws : List Word) : (p.jogFrame n ws).1.Governed := by
  unfold Part.jogFrame
  repeat' split
  · exact h.doing fun _ a => .jog a _ _ _
  · exact h
  · exact h

/-- R179: START starts every axis with a DEMAND of 0, and then forms the permit set. -/
theorem starts (h : p.Governed) : p.starts.Governed := by
  have operating : Drives { p with sen := { p.sen with mode := .operating } } :=
    h.drives.same { mode := fun h => nomatch h }
  exact reach (operating.reach (.startAxes _)).formPermit (.performSequence _ _ _)

theorem startFrame (h : p.Governed) (ws : List Word) : (p.startFrame ws).1.Governed := by
  unfold Part.startFrame
  repeat' split
  · exact h
  · exact h
  · exact h.starts

/-- R54, R92, R177: after a reset the permit set is empty, no axis has a rate, and nothing waits. -/
theorem of_start {t : Tables} {n : Sensed} {s0 period : Nat} (h0 : n.permit = 0) (hm : n.mode = .unconfigured) :
    Governed { tab := t, sen := n, act := Acting.start s0 period } :=
  ⟨h0.trans (Ctx.permitSet_unconfigured hm).symm,
    ⟨fun x => .of_zero (by cases x <;> rfl), .of_nil rfl⟩⟩

theorem resetFrame (h : p.Governed) (n : Node) (ws : List Word) : (p.resetFrame n ws).Governed := by
  unfold Part.resetFrame
  split
  · exact h.reply _ _ _ _
  · exact (reply (p := p.warm) (of_start rfl rfl) _ _ _ _).drives.takeLines _

theorem swapFrame (h : p.Governed) (ws : List Word) : (p.swapFrame ws).1.Governed := by
  unfold Part.swapFrame Part.bankSwap
  repeat' split
  · exact h
  · exact h
  · exact Drives.takeLines (h.drives.same {}) _
  · exact h
  · exact h

theorem readCounters (h : p.Governed) (ws : List Word) : (p.readCounters ws).1.Governed := by
  unfold Part.readCounters
  repeat' split
  exacts [h.same {}, h, h]

theorem readDrops (h : p.Governed) (ws : List Word) : (p.readDrops ws).1.Governed := by
  unfold Part.readDrops
  split
  · exact h
  · exact h.same {}

theorem linesSet (h : p.Governed) (ws : List Word) : (p.linesSet ws).1.Governed := by
  unfold Part.linesSet
  split
  · split
    · exact h.same {}
    · exact h
  · exact h

theorem lampTest (h : p.Governed) (ws : List Word) : (p.lampTest ws).1.Governed := by
  unfold Part.lampTest
  repeat' split
  exacts [h.same {}, h, h]

theorem takeDriveStatus (h : p.Governed) (n : Node) (ws : List Word) : (p.takeDriveStatus n ws).Governed := by
  unfold Part.takeDriveStatus
  repeat' split
  · exact h.acting fun _ a => .driveReport a _ _ _
  · exact h
  · exact h

theorem takeDemand (h : p.Governed) (f : Frame) : (p.takeDemand f).Governed := by
  unfold Part.takeDemand
  split
  · exact answer f (h.doing fun _ a => .jog a _ _ _)
  · exact answer f h

theorem readStatus (h : p.Governed) (f : Frame) : (p.readStatus f).Governed := by
  unfold Part.readStatus
  split
  · exact answer f h
  · exact h.acting fun _ a => .status a

theorem tableReadFrame (h : p.Governed) (f : Frame) : (p.tableReadFrame f).Governed := by
  unfold Part.tableReadFrame
  split
  · exact h.reply _ _ _ _
  · exact answer f h

theorem take (h : p.Governed) (f : Frame) : (p.take f).Governed := by
  unfold Part.take
  split
  · exact takePairs _ _ p h
  · exact h.takeDriveStatus _ _
  · exact h.acting fun _ a => .takeAim a _ _
  · exact h.acting fun _ a => .takeGoto a _ _
  · exact answer f (h.jogFrame _ _)
  · exact answer f (h.naming _ fun named _ a => .stopNamed a named)
  · exact answer f (h.bare _ fun _ a => .stowFrame a)
  · exact answer f (h.bare _ fun _ a => .startSearch a _)
  · exact answer f (h.bare _ fun _ a => .searchEndFrame a)
  · exact answer f (h.naming _ fun named _ a => .clearNamed a named)
  · exact answer f (h.startFrame _)
  · exact h.resetFrame _ _
  · exact answer f (h.tableWrite _)
  · exact h.tableReadFrame f
  · exact answer f (h.swapFrame _)
  · exact h.readStatus f
  · exact (h.readCounters _).reply _ _ _ _
  · exact (h.readDrops _).reply _ _ _ _
  · exact answer f (h.linesSet _)
  · exact answer f (h.lampTest _)
  all_goals exact h

/-! ### Arrivals -/

theorem consume (h : p.Governed) (port : Port) (f : Frame) : (p.consume port f).Governed := by
  unfold Part.consume
  dsimp only
  split
  · exact (h.take f).emit fun t v o => .placeC t v _ _ o
  · exact h.take f

/-- R162, R176: NODE_DATA is forwarded to a port that is open alone. -/
theorem forward (h : p.Governed) (port dest : Port) (f : Frame) : (p.forward port dest f).Governed := by
  unfold Part.forward
  split
  · exact h.drop _
  next ho =>
    have opened : (p.tab.ports.get dest).state = .opened := by simpa using (not_or.1 ho).2
    refine ⟨h.permit, h.act.rate, h.act.out.forward _ (fun hd => ?_) _⟩
    rw [hd, PerPort.get_d] at opened
    exact fun closed => nomatch opened.symm.trans closed

theorem route (h : p.Governed) (port : Port) (f : Frame) : (p.route port f).Governed := by
  unfold Part.route
  repeat' split
  · exact h.consume port f
  · exact h
  · exact h.takeDemand f
  · exact h.forward _ _ _
  · exact h.drop _

theorem arrive (h : p.Governed) (port : Port) (f : Frame) : (p.arrive port f).Governed := by
  unfold Part.arrive
  dsimp only
  split
  · exact drop (h.same {}) _
  · exact route (h.same {}) port f

theorem arriveWords (h : p.Governed) (port : Port) (framing : Bool) (ws : List Word) :
    (p.arriveWords port framing ws).Governed := by
  unfold Part.arriveWords
  split
  · exact h.arrive port _
  · exact drop (h.same {}) _

/-! ### Resets and timers -/

theorem powerOn (straps : BitVec 2) (pins : BitVec 8) : (Part.powerOn straps pins).Governed := by
  unfold Part.powerOn
  dsimp only
  split
  · exact estopChanged (of_start rfl rfl).drives
  · exact of_start rfl rfl

theorem refill (h : p.Governed) : p.refill.Governed := by
  unfold Part.refill
  split
  · exact h
  · exact h.same {}

theorem statusExpired (h : p.Governed) : (p.acting Acting.statusExpired).Governed := by
  have restarted : Governed { p with act := { p.act with out := { p.act.out with
      statusTimer := some (p.tab.report.period * 10000) } } } := h.same {}
  unfold Part.acting Acting.statusExpired
  split
  · exact h
  · exact restarted.acting fun _ a => .status a

theorem transmissionDone (h : p.Governed) (k : Port) : (p.acting (Acting.transmissionDone k)).Governed :=
  h.same { queue := Output.complete_driveQueue_subset _ _ k _ }

theorem pass (h : p.Governed) (d : Nat) : (p.pass d).Governed := by
  unfold Part.pass
  exact h.same { vPrev := fun x => by cases x <;> rfl, state := fun x => by cases x <;> rfl }

/-! ### Every step -/

theorem live {f : Part → Part} (h : p.Governed) (hf : p.Governed → (f p).Governed) : (p.live f).Governed := by
  unfold Part.live
  split
  · exact h
  · exact (hf h).settle

theorem exec (i : Instr) {s s' : State} (h : s.part.Governed) (he : exec i s = .next s') : s'.part.Governed := by
  have runs : ∀ f : Part → Part, s.run f = .next s' → (s.part.Governed → (f s.part).Governed) → s'.part.Governed := by
    intro f e hf
    rw [State.run_next e]
    exact h.live hf
  have arrives : ∀ (port : Port) (f : Frame), (s.run fun p => p.arrive port f) = .next s' → s'.part.Governed :=
    fun port f e => runs _ e fun hp => hp.arrive port f
  have acts : ∀ {f : Ctx → Acting → Acting}, (s.run fun p => p.acting f) = .next s' →
      (∀ c a, Acting.Reach c a (f c a)) → s'.part.Governed := fun e hf => runs _ e fun hp => hp.acting hf
  cases i
  case powerOnReset straps pins =>
    rw [← Host.Outcome.next.inj he]
    exact powerOn straps pins
  case resetInputAsserted =>
    rw [← Host.Outcome.next.inj he]
    exact h.same {}
  case ageExpiry q => exact runs _ he fun hp => hp.ageExpired q
  case filteredLevelChange pins => exact runs _ he fun hp => hp.sampleLines pins
  case inputSample pins => exact runs _ he fun hp => hp.sampleLines pins
  case frameDropped port framing ws => exact runs _ he fun hp => hp.arriveWords port framing ws
  case tableWriteLine hd pins i fs =>
    exact runs _ he fun hp => arrive (p := s.part.seePins pins) (hp.same {}) hd.port _
  case updateExpiry x => exact acts he fun _ a => .updateExpired a x
  case jogTimerExpiry x => exact acts he fun _ a => .jogExpired a x
  case stallTimerExpiry x => exact acts he fun _ a => .stallExpired a x
  case driveAgeExpiry x => exact acts he fun _ a => .driveAgeExpired a x
  case suspendTimerExpiry => exact acts he fun _ a => .suspendExpired a
  case phaseTimerExpiry => exact acts he fun _ a => .phaseExpired a
  case refillTimerExpiry => exact runs _ he fun hp => hp.refill
  case statusTimerExpiry => exact runs _ he fun hp => hp.statusExpired
  case transmissionComplete k => exact runs _ he fun hp => hp.transmissionDone k
  all_goals exact arrives _ _ he

theorem step {s s' : State} (h : s.part.Governed) (he : step s = .next s') : s'.part.Governed := by
  unfold Machine.step State.idle at he
  repeat' split at he
  · exact Host.Outcome.next.inj he ▸ h
  · exact exec _ h he
  · exact Host.Outcome.next.inj he ▸ h.pass _
  · exact Host.Outcome.next.inj he ▸ h
  next i rest _ => exact exec i (s := { s with pending := rest }) h he

end Governed

end Part

/-- Settles O59: the law holds in the form in which every command is shown to keep it. -/
theorem stepsKeepDemandLaws : Obligations.StepsKeepDemandLaws := fun _ _ h he =>
  Part.rateLaw_iff.2 ((Part.rateLaw_iff.1 h).step he)

end Sys2Proof.Machine
end

section
/-! PROOFS. O18: the predicate of a rule (R40, R41). -/

namespace Sys2Proof.Machine

namespace Rule

variable {r : Rule} {s : Sensed}

/-- R41: an operand that is not fresh makes every condition true. -/
theorem holds_of_not_fresh (h : s.fresh r.operand = false) : r.holds s = true := by
  unfold holds
  cases r.condition <;> simp [h]

end Rule

/-- Settles O18. -/
theorem rulePredicatesAsStated : Obligations.RulePredicatesAsStated := by
  intro r s fresh v mask
  refine ⟨fun hf => Rule.holds_of_not_fresh (decide_eq_false hf), fun hc => ?_, fun hf => ?_⟩
  · unfold Rule.holds
    rw [hc]
  · have on : s.fresh r.operand = true := decide_eq_true hf
    refine ⟨fun hc => ?_, fun hc => ?_, fun hc => ?_, fun hc => ?_, fun hc => ?_, fun hc => ?_, fun hc => ?_,
      fun hc => ?_, fun hc => ?_⟩ <;> unfold Rule.holds <;> rw [hc] <;> dsimp only <;> rw [on]
    case refine_1 => rfl
    all_goals exact decide_eq_true_iff

end Sys2Proof.Machine
end

section
/-! PROOFS. O20: the permit set (R54). -/

namespace Sys2Proof.Machine

/-- R45: a direction is inhibited when the last rule of a group in force names it. -/
theorem hasDirection_inhibited (rules : List Rule) (groups : List Group) (d : Direction) :
    hasDirection (inhibited rules groups) d = false ↔
      ∀ g ∈ groups, g.state ≠ .clear → hasDirection (g.lastRule rules).inhibits d = false := by
  have fold : ∀ acc : BitVec 7,
      hasDirection (groups.foldl (fun acc g => if g.inForce then acc ||| (g.lastRule rules).inhibits else acc) acc) d = false
        ↔ hasDirection acc d = false
          ∧ ∀ g ∈ groups, g.state ≠ .clear → hasDirection (g.lastRule rules).inhibits d = false := by
    induction groups with
    | nil => simp
    | cons g gs ih =>
      intro acc
      rw [List.foldl_cons, ih, List.forall_mem_cons, ← and_assoc]
      refine and_congr_left fun _ => ?_
      by_cases hg : g.state = .clear <;> simp [Group.inForce, hg, hasDirection]
  unfold inhibited
  rw [fold]
  exact and_iff_right (hasDirection_zero d)

theorem directionIndex_lt (d : Direction) : directionIndex d < 7 := by cases d <;> decide

/-- Settles O20. -/
theorem permitSetAsStated : Obligations.PermitSetAsStated := by
  refine ⟨fun c d => ?_, fun c a => rfl⟩
  unfold Ctx.permitSet
  rw [← hasDirection_inhibited]
  cases hm : c.sen.mode <;> cases he : c.sen.estop <;>
    simp [Ctx.operating, hm, hasDirection, directionIndex_lt]

end Sys2Proof.Machine
end

section
/-! PROOFS. O19: the predicate of a group, its step, and an evaluating event (R42, R44, R47, R48). -/

namespace Sys2Proof.Machine

/-- R44: a group that is not CLEAR, at an evaluation with its predicate false. -/
theorem Group.step_false_of_not_clear {g : Group} (hs : g.state ≠ .clear) (last : Rule) : g.step last false =
    if g.falseRun + 1 = last.releaseP then { g with state := .clear, trueRun := 0, falseRun := 0 }
    else { g with falseRun := g.falseRun + 1 } := by
  unfold Group.step
  cases h : g.state
  case clear => exact absurd h hs
  all_goals rfl

/-- R47: the action word names an action that was performed, and NONE for another. -/
theorem Performed.name_eq (done : Performed) (act : Action) : done.name act =
    if (act = .stopAll ∧ done.stopAll = true) ∨ (act = .stow ∧ done.stow = true) ∨ (act = .lower ∧ done.lower = true)
    then act else .none := by
  cases act <;> simp [Performed.name]

/-- Settles O19. -/
theorem groupStepAsTable : Obligations.GroupStepAsTable := by
  refine ⟨fun g rules s => List.all_eq_true, fun g last => ⟨fun hs => ?_, fun hs => ?_, fun hs => ?_, fun hs => ?_⟩,
    fun p concerned => congrArg Sensed.groups (Part.evaluate_sen concerned p), fun p concerned => rfl,
    fun c rules done old new a => ⟨fun h => if_pos h, fun hs hr => ?_⟩⟩
  · simp +contextual [Group.step, hs]
  · simp [Group.step, hs]
  · simp [Group.step, hs]
  · rw [Group.step_false_of_not_clear hs]
    exact ⟨fun h => if_pos h, fun h => if_neg h⟩
  · unfold Acting.groupEvent
    rw [if_neg (by simp [hs, hr]), Performed.name_eq, ← ite_and]
    simp only [triggers, Bool.and_eq_true, decide_eq_true_eq, and_assoc]
    rfl

end Sys2Proof.Machine
end

section
/-! PROOFS. O34: a change of the permit set, and the one change of axis records (R55, R77, R78, R91). -/

namespace Sys2Proof.Machine

/-! ### The permit set is formed (R55) -/

theorem Part.formPermit_same {p : Part} (h : p.sen.permit = p.ctx.permitSet) : p.formPermit = p := if_pos h.symm

theorem Part.formPermit_changed {p : Part} (h : p.sen.permit ≠ p.ctx.permitSet) : p.formPermit =
    ({ p with sen := { p.sen with permit := p.ctx.permitSet } } : Part).acting fun c a => a.seePermit c p.sen.permit :=
  if_neg (Ne.symm h)

/-! ### One change of axis records (R77, R91) -/

theorem immediateZeros_eq (c : Ctx) (chosen : Axis → Bool) (x : Axis) :
    immediateZeros c chosen x = if c.sen.mode = .operating ∧ chosen x = true then some 0 else none := by
  simp only [immediateZeros, Bool.and_eq_true, Ctx.operating_iff]

namespace Acting

/-- The acting side with the new axis records, before its DEMANDs and STATUS requests. -/
def moved (c : Ctx) (f : Axis → AxisRun → AxisRun) (a : Acting) : Acting :=
  let t : PerAxis AxisRun := ⟨f .mast a.axes.mast, f .pan a.axes.pan, f .tilt a.axes.tilt⟩
  { a.setAxes c t with pointing := a.pointing.watch t }

theorem moved_get (c : Ctx) (f : Axis → AxisRun → AxisRun) (a : Acting) (x : Axis) :
    (a.moved c f).axes.get x = f x (a.axes.get x) := by
  unfold moved
  dsimp only
  rw [setAxes_axes]
  cases x <;> rfl

/-- R91: the STATUS request of one axis of a change. -/
def reportOne (c : Ctx) (old new : PerAxis AxisRun) (x : Axis) (a : Acting) : Acting :=
  if (new.get x).state = (old.get x).state then a else a.requestStatus c

theorem shift_eq (c : Ctx) (rate : Axis → Option Int) (f : Axis → AxisRun → AxisRun) (a : Acting) :
    a.shift c rate f =
      ((((a.moved c f).sendDemands c rate).reportOne c a.axes (a.moved c f).axes .mast).reportOne c a.axes
        (a.moved c f).axes .pan).reportOne c a.axes (a.moved c f).axes .tilt := by
  have reported : a.shift c rate f = ((a.moved c f).sendDemands c rate).reportAxes c a.axes := rfl
  rw [reported]
  unfold reportAxes
  rw [sendDemands_axes]
  rfl

/-- A change of axis records is told by the records that it leaves. -/
theorem shift_congr {c : Ctx} {rate : Axis → Option Int} {f g : Axis → AxisRun → AxisRun} {a : Acting}
    (h : ∀ x, f x (a.axes.get x) = g x (a.axes.get x)) : a.shift c rate f = a.shift c rate g := by
  have mast := h .mast
  have pan := h .pan
  have tilt := h .tilt
  simp only [PerAxis.get_mast, PerAxis.get_pan, PerAxis.get_tilt] at mast pan tilt
  unfold shift
  rw [mast, pan, tilt]

/-! ### The axes that a new permit set stops (R78) -/

/-- R78: the axes that are stopped are those whose record changes. -/
theorem permitHeld_changed (c : Ctx) (old : BitVec 7) (a : Acting) (x : Axis) :
    lostDirection old c.sen.permit x (a.axes.get x)
      = decide ((a.permitHeld c old).axes.get x ≠ a.axes.get x) := by
  rw [permitHeld_get]
  cases hl : lostDirection old c.sen.permit x (a.axes.get x)
  case false => simp
  case true =>
    have changed : (a.axes.get x).held ≠ a.axes.get x := fun he =>
      (lostDirection_iff.1 hl).1 (he ▸ AxisRun.held_vPrev _)
    rw [if_pos rfl, decide_eq_true changed]

theorem permitHeld_eq (c : Ctx) (old : BitVec 7) (a : Acting) : a.permitHeld c old =
    a.shift c (immediateZeros c fun x => decide ((a.permitHeld c old).axes.get x ≠ a.axes.get x))
      fun x _ => (a.permitHeld c old).axes.get x := by
  simp only [← permitHeld_changed]
  exact shift_congr fun x => (permitHeld_get c old a x).symm

end Acting

/-! ### The table of R78 -/

namespace AxisRun

variable {r : AxisRun}

theorem held_of_moving (h : r.state = .moving ∨ r.state = .atGoal) : r.held = { r with
    state := .held, vPrev := 0, settle := 0, jog := none, jogTimer := none, stallTimer := none, faultCause := .none } := by
  unfold held
  rcases h with h | h <;> rw [h] <;> rfl

theorem held_of_stopping (h : r.state = .stopping) : r.held = { r with
    state := .stopped, vPrev := 0, goal := none, jog := none, jogTimer := none, stallTimer := none
    faultCause := .none } := by
  unfold held
  rw [h]
  rfl

theorem held_of_other (h : r.state = .jogging ∨ r.state = .held ∨ r.state = .stopped ∨ r.state = .fault) :
    r.held = { r with vPrev := 0, stallTimer := none } := by
  unfold held
  split
  case h_4 => rfl
  all_goals
    next hs => exact absurd h (by rw [hs]; decide)

end AxisRun

/-- Settles O34. -/
theorem permitLossHoldsAxes : Obligations.PermitLossHoldsAxes := by
  refine ⟨fun p => ⟨congrArg Sensed.permit p.formPermit_sen, Part.formPermit_same, Part.formPermit_changed⟩,
    fun c old a => rfl, immediateZeros_eq, fun c rate f a => ⟨a.moved c f, Acting.setAxes_search _ _ _,
      Acting.setAxes_seq _ _ _, Acting.setAxes_out _ _ _, Acting.moved_get c f a, ?_⟩, fun c old a => ?_,
    fun r => ⟨AxisRun.held_of_moving, AxisRun.held_of_stopping, AxisRun.held_of_other⟩⟩
  · rw [Acting.shift_eq, Acting.sendDemands_eq]
    rfl
  · refine ⟨a.permitHeld c old, rfl, Acting.shift_search _ _ _ _, Acting.shift_seq _ _ _ _, a.permitHeld_eq c old,
      fun x => ⟨fun hl => ?_, fun hl => ?_⟩⟩
    · have lost := Acting.lostDirection_iff.2 hl
      rw [Acting.permitHeld_get, if_pos lost]
      exact ⟨rfl, fun hm hd => Acting.sends_zero lost hm hd _ a⟩
    · rw [Acting.permitHeld_get, if_neg fun lost => hl (Acting.lostDirection_iff.1 lost)]

end Sys2Proof.Machine
end

section
/-! PROOFS. O21: STOP_ALL, and the actions that one event and START perform (R49 to R53). -/

namespace Sys2Proof.Machine

/-! ### One axis cut off (R79) -/

theorem AxisRun.cutOff_of_fault {r : AxisRun} (h : r.state = .fault) :
    r.cutOff = { r with vPrev := 0, stallTimer := none } := if_pos h

theorem AxisRun.cutOff_of_ne_fault {r : AxisRun} (h : r.state ≠ .fault) : r.cutOff = { r with
    state := .stopped, owner := .none, goal := none, jog := none, jogTimer := none, settle := 0, vPrev := 0
    stallTimer := none, faultCause := .none } := if_neg h

/-! ### The sequencer -/

theorem SequenceState.running_iff {st : SequenceState} : st.running = true ↔ st ≠ .idle := decide_eq_true_iff

theorem SequenceState.stowing_iff {st : SequenceState} :
    st.stowing = true ↔ st = .stowTilt ∨ st = .stowPan ∨ st = .stowMast := by
  cases st <;> decide

theorem lowerAllowed_iff (c : Ctx) (a : Acting) : lowerAllowed c a = true ↔
    (c.sen.image[(0 : Fin 24)]).state = .fresh ∧ c.tab.pointing.safeHeight < (c.sen.image[(0 : Fin 24)]).value
      ∧ a.seq.state = .idle := by
  simp only [lowerAllowed, Bool.and_eq_true, decide_eq_true_eq, Bool.not_eq_true', SequenceState.running,
    decide_eq_false_iff_not, not_not, and_assoc]
  exact and_congr_left' decide_eq_true_iff

namespace Acting

variable {c : Ctx} {a : Acting}

/-! ### The actions of one event (R49, R50, R52) -/

/-- R49: an action is triggered when a group whose last rule names it enters ASSERTED. -/
theorem anyTriggers_iff {rules : List Rule} {changes : List (Group × Group)} {act : Action} :
    anyTriggers rules changes act = true ↔ ∃ ch ∈ changes,
      ch.1.state ≠ .asserted ∧ ch.2.state = .asserted ∧ (ch.2.lastRule rules).action = act := by
  simp only [anyTriggers, triggers, List.any_eq_true, Bool.and_eq_true, decide_eq_true_eq, and_assoc]

/-- R50: the acting side after the STOP_ALL of an event, if one is triggered. -/
def stopAll (c : Ctx) (stop : Bool) (a : Acting) : Acting := if stop then a.cutOffAll c else a

theorem perform_operating (hm : c.sen.mode = .operating) (rules : List Rule) (changes : List (Group × Group))
    (a : Acting) : a.perform c rules changes =
      (let r := (a.stopAll c (anyTriggers rules changes .stopAll)).performSequence c
        (anyTriggers rules changes .stow) (anyTriggers rules changes .lower)
       (r.1, { r.2 with stopAll := anyTriggers rules changes .stopAll })) := by
  unfold perform
  rw [if_neg (by simp [Ctx.operating, hm])]
  rfl

/-! ### STOW and LOWER (R51, R52) -/

theorem performSequence_stowing (hs : a.seq.state.stowing = true) (lower : Bool) :
    a.performSequence c true lower = (a, .nothing) := by
  unfold performSequence
  rw [if_pos rfl, if_pos hs]

theorem performSequence_stow (hs : ¬a.seq.state.stowing = true) (lower : Bool) :
    a.performSequence c true lower = ((a.stowAction c).1, { Performed.nothing with stow := (a.stowAction c).2 }) := by
  unfold performSequence
  rw [if_pos rfl, if_neg hs]

theorem performSequence_lower (hl : lowerAllowed c a = true) : a.performSequence c false true =
    ((a.lowerAction c).1, { Performed.nothing with lower := (a.lowerAction c).2 }) := by
  unfold performSequence
  rw [if_neg Bool.false_ne_true, if_pos (by rw [hl]; rfl)]

theorem performSequence_none {lower : Bool} (h : ¬(lower = true ∧ lowerAllowed c a = true)) :
    a.performSequence c false lower = (a, .nothing) := by
  unfold performSequence
  rw [if_neg Bool.false_ne_true, if_neg (by rwa [Bool.and_eq_true])]

theorem stowAction_refused {r : Result} (h : stowClaim c a = some r) :
    a.stowAction c = (a.sequenceEvent c .stow .refused (resultCode r) .idle, false) := by
  unfold stowAction
  rw [h]

theorem stowAction_started (h : stowClaim c a = none) : a.stowAction c = (a.startStow c, true) := by
  unfold stowAction
  rw [h]

end Acting

/-- Settles O21. -/
theorem stopAllCutsEveryAxisOff : Obligations.StopAllCutsEveryAxisOff := by
  refine ⟨fun c a => ?_, fun c a => ⟨fun hs => ?_, fun hs => ?_⟩, fun c rules changes a => ⟨fun hm => ?_, fun hm => ?_⟩,
    fun c stow lower a => ?_, fun c a => ⟨fun r => Acting.stowAction_refused, Acting.stowAction_started⟩, fun p => ?_⟩
  · have cut := Acting.cutOffAll_cutFrom c a
    refine ⟨rfl, fun r => ⟨AxisRun.cutOff_of_fault, AxisRun.cutOff_of_ne_fault⟩, cut.axes, cut.search, cut.seq,
      fun hm hd => ?_⟩
    have zeroed := cut.zeroed hm hd
    exact ⟨fun x f hf => congrArg Frame.payload (zeroed.waits x f hf), zeroed.sends⟩
  · exact if_neg (by rw [hs]; decide)
  · exact if_pos (SequenceState.running_iff.2 hs)
  · exact Acting.perform_unconfigured hm rules changes a
  · rw [Acting.perform_operating hm]
    simp only [← Acting.anyTriggers_iff]
    refine ⟨a.stopAll c (anyTriggers rules changes .stopAll), anyTriggers rules changes .stow,
      anyTriggers rules changes .lower, fun ht => ⟨if_pos ht, ht⟩, fun ht => ⟨if_neg ht, Bool.eq_false_iff.2 ht⟩,
      Iff.rfl, Iff.rfl, rfl, rfl, rfl⟩
  · simp only [← lowerAllowed_iff, ← SequenceState.stowing_iff]
    refine ⟨?_, ?_, ?_, ?_⟩
    · rintro rfl hs
      exact Acting.performSequence_stowing hs lower
    · rintro rfl hs
      exact Acting.performSequence_stow hs lower
    · rintro rfl rfl hl
      exact Acting.performSequence_lower hl
    · rintro rfl hl
      exact Acting.performSequence_none hl
  · refine ⟨_, _, ?_, ?_, rfl⟩ <;>
      simp only [List.any_eq_true, Bool.and_eq_true, decide_eq_true_eq]

end Sys2Proof.Machine
end

section
/-! SUPPORT. What the hand-offs leave of a drive: the search, pointing and the sequencer change the axes by claims,
releases and stops alone, which leave every v_prev, update timer and drive age timer as it was (R68, R69, R70). -/

namespace Sys2Proof.Machine

/-- The rate that the drive was sent last, and the timers of its updates and reports, are as they were. -/
structure AxisRun.SameDrive (r r' : AxisRun) : Prop where
  vPrev : r'.vPrev = r.vPrev
  updateTimer : r'.updateTimer = r.updateTimer
  driveAge : r'.driveAge = r.driveAge

namespace AxisRun.SameDrive

variable {r r' r'' : AxisRun}

theorem refl (r : AxisRun) : r.SameDrive r := ⟨rfl, rfl, rfl⟩

theorem trans (h₁ : r.SameDrive r') (h₂ : r'.SameDrive r'') : r.SameDrive r'' :=
  ⟨h₂.vPrev.trans h₁.vPrev, h₂.updateTimer.trans h₁.updateTimer, h₂.driveAge.trans h₁.driveAge⟩

theorem claimed (m : MotionRecord) (o : Owner) (g : Int) (r : AxisRun) : r.SameDrive (r.claimed m o g) := by
  unfold AxisRun.claimed
  dsimp only
  split <;> exact ⟨rfl, rfl, rfl⟩

theorem released (r : AxisRun) : r.SameDrive r.released := by
  unfold AxisRun.released
  split <;> exact ⟨rfl, rfl, rfl⟩

theorem stoppedBy (r : AxisRun) : r.SameDrive r.stoppedBy := by
  unfold AxisRun.stoppedBy
  split <;> exact ⟨rfl, rfl, rfl⟩

end AxisRun.SameDrive

/-- The changes of the acting side that the hand-offs and the actions of groups, but for STOP_ALL, are made of. -/
inductive Acting.HandedOn (c : Ctx) : Acting → Acting → Prop
  | refl (a : Acting) : HandedOn c a a
  | trans {a b d : Acting} (h₁ : HandedOn c a b) (h₂ : HandedOn c b d) : HandedOn c a d
  | claim (o : Owner) (goal : Axis → Option Int) (a : Acting) : HandedOn c a (a.claim c o goal)
  | release (o : Owner) (a : Acting) : HandedOn c a (a.release c o)
  | stop (o : Owner) (a : Acting) : HandedOn c a (a.shiftQuiet c fun _ r => if r.owner = o then r.stoppedBy else r)
  | search (s : SearchRun) (a : Acting) : HandedOn c a { a with search := s }
  | seq (q : SequencerRun) (a : Acting) : HandedOn c a { a with seq := q }
  | pointing (r : PointingRun) (a : Acting) : HandedOn c a { a with pointing := r }
  | raise (k : EventKind) (ws : List Word) (a : Acting) : HandedOn c a (a.raise c k ws)
  | status (a : Acting) : HandedOn c a (a.requestStatus c)

namespace Acting.HandedOn

variable {c : Ctx} {a b : Acting}

/-- No hand-off touches what an axis has sent to its drive, or when it is due. -/
theorem sameDrive (h : HandedOn c a b) (x : Axis) : (a.axes.get x).SameDrive (b.axes.get x) := by
  induction h with
  | trans _ _ ih₁ ih₂ => exact ih₁.trans ih₂
  | claim o goal a =>
    unfold Acting.claim Acting.shiftQuiet
    rw [shift_get]
    split
    · exact .claimed _ _ _ _
    · exact .refl _
  | release o a =>
    rw [release_get]
    split
    · exact .released _
    · exact .refl _
  | stop o a =>
    unfold Acting.shiftQuiet
    rw [shift_get]
    split
    · exact .stoppedBy _
    · exact .refl _
  | _ => exact .refl _

theorem ite {p : Prop} [Decidable p] (h : HandedOn c a b) : HandedOn c a (if p then b else a) := by
  split
  · exact h
  · exact .refl a

/-! ### The search -/

theorem searching (f : SearchRun → SearchRun) (a : Acting) : HandedOn c a (a.searching f) := .search _ a

theorem endSearch (st : SearchState) (r : FailureReason) (e : Ending) (a : Acting) :
    HandedOn c a (a.endSearch c st r e) :=
  .trans (.trans (searching _ a) (.release .search _)) (.raise _ _ _)

theorem abortSearch (a : Acting) : HandedOn c a (a.abortSearch c) := ite (endSearch _ _ _ a)

theorem failSearch (r : FailureReason) (a : Acting) : HandedOn c a (a.failSearch c r) := ite (endSearch _ _ _ a)

theorem peakOrFail (a : Acting) : HandedOn c a (a.peakOrFail c) := by
  unfold Acting.peakOrFail
  split
  · split
    · exact searching _ a
    · exact failSearch _ a
  · exact failSearch _ a

theorem returnCheck (a : Acting) : HandedOn c a (a.returnCheck c) := ite (peakOrFail a)

theorem resumeSearch (a : Acting) : HandedOn c a (a.resumeSearch c) := by
  unfold Acting.resumeSearch
  split
  · exact searching _ a
  · exact .trans (searching _ a) (returnCheck _)

theorem enterCause (f : SuspendCauses → SuspendCauses) (a : Acting) : HandedOn c a (a.enterCause c f) := searching _ a

theorem leaveCause (f : SuspendCauses → SuspendCauses) (a : Acting) : HandedOn c a (a.leaveCause c f) := by
  unfold Acting.leaveCause
  dsimp only
  split
  · split
    · exact .trans (searching _ a) (resumeSearch _)
    · exact searching _ a
  · exact .refl a

theorem searchSeesAxes (old : PerAxis AxisRun) (a : Acting) : HandedOn c a (a.searchSeesAxes c old) := by
  unfold Acting.searchSeesAxes
  dsimp only
  refine .trans ?_ (returnCheck _)
  refine .trans ?_ (ite (leaveCause _ _))
  refine .trans ?_ (ite (leaveCause _ _))
  refine .trans ?_ (ite (enterCause _ _))
  refine .trans ?_ (ite (enterCause _ _))
  exact ite (searching _ _)

theorem searchSeesPermit (old : BitVec 7) (a : Acting) : HandedOn c a (a.searchSeesPermit c old) := by
  unfold Acting.searchSeesPermit
  dsimp only
  split
  · exact enterCause _ a
  · exact ite (leaveCause _ a)

theorem beginSearch (a : Acting) : HandedOn c a (a.beginSearch c) := by
  unfold Acting.beginSearch
  dsimp only
  split
  · exact .trans (.trans (.claim _ _ a) (searching _ _)) (enterCause _ _)
  · exact .trans (.claim _ _ a) (searching _ _)

theorem startSearch (n : Node) (a : Acting) : HandedOn c a (a.startSearch c n).1 := by
  unfold Acting.startSearch
  dsimp only
  split
  · exact searching _ a
  · exact .trans (searching _ a) (beginSearch _)

theorem searchAfter (a : Acting) : HandedOn c a (a.searchAfter c) := by
  unfold Acting.searchAfter
  split
  · exact .refl a
  · dsimp only
    split
    · split
      · exact .trans (.pointing _ a) (startSearch _ _)
      · exact .trans (.pointing _ a) (startSearch _ _)
      · exact .trans (.trans (.pointing _ a) (startSearch _ _)) (.raise _ _ _)
    · exact .refl a

/-! ### The sequencer -/

theorem partAxes (how : Parting) (a : Acting) : HandedOn c a (a.partAxes c how) := by
  cases how
  · exact .release .safety a
  · exact .stop .safety a
  · exact .refl a

theorem endSequence (e : Ending) (r : SequenceReason) (how : Parting) (a : Acting) :
    HandedOn c a (a.endSequence c e r how) :=
  .trans (.trans (.trans (.trans (.seq _ a) (partAxes how _)) (ite (leaveCause _ _))) (.seq _ _)) (.raise _ _ _)

theorem enterPhase (st : SequenceState) (x : Axis) {done : Acting → Acting} (hd : ∀ b, HandedOn c b (done b))
    (a : Acting) : HandedOn c a (a.enterPhase c st x done) := by
  unfold Acting.enterPhase
  dsimp only
  split
  · exact .trans (.seq _ a) (endSequence _ _ _ _)
  · split
    · exact .trans (.trans (.seq _ a) (.claim _ _ _)) (hd _)
    · exact .trans (.seq _ a) (.claim _ _ _)

theorem enterStowMast (a : Acting) : HandedOn c a (a.enterStowMast c) := enterPhase _ _ (endSequence _ _ _) a

theorem enterStowPan (a : Acting) : HandedOn c a (a.enterStowPan c) := enterPhase _ _ enterStowMast a

theorem startStow (a : Acting) : HandedOn c a (a.startStow c) := by
  have begun (q : SequencerRun) : HandedOn c a
      { ((a.claim c .safety (stowGoals c a)).abortSearch c).lowerGivesWay c with seq := q } :=
    .trans (.trans (.trans (.claim _ _ a) (abortSearch _)) (ite (endSequence _ _ _ _))) (.seq q _)
  unfold Acting.startStow
  dsimp only
  split
  · exact .trans (begun _) (enterStowPan _)
  · exact begun _

theorem stowAction (a : Acting) : HandedOn c a (a.stowAction c).1 := by
  unfold Acting.stowAction
  split
  · exact .raise _ _ a
  · exact startStow a

theorem startLower (a : Acting) : HandedOn c a (a.startLower c) := by
  unfold Acting.startLower
  dsimp only
  split
  · exact .trans (.trans (.trans (.claim _ _ a) (.seq _ _)) (enterCause _ _)) (endSequence _ _ _ _)
  · exact .trans (.trans (.claim _ _ a) (.seq _ _)) (enterCause _ _)

theorem lowerAction (a : Acting) : HandedOn c a (a.lowerAction c).1 := by
  unfold Acting.lowerAction
  split
  · exact .raise _ _ a
  · exact startLower a

theorem phaseComplete (a : Acting) : HandedOn c a (a.phaseComplete c) := by
  unfold Acting.phaseComplete
  split
  · exact .refl a
  · exact enterStowPan a
  · exact enterStowMast a
  · exact endSequence _ _ _ a
  · exact endSequence _ _ _ a

theorem sequencerSeesAxes (old : PerAxis AxisRun) (a : Acting) : HandedOn c a (a.sequencerSeesAxes c old) := by
  unfold Acting.sequencerSeesAxes
  split
  · exact ite (phaseComplete a)
  · exact .refl a

/-! ### Hand-offs and actions -/

/-- R91. -/
theorem handAxes (old : PerAxis AxisRun) (a : Acting) : HandedOn c a (a.handAxes c old) :=
  .trans (.trans (searchSeesAxes old a) (searchAfter _)) (sequencerSeesAxes old _)

/-- R51, R52. -/
theorem performSequence (stow lower : Bool) (a : Acting) : HandedOn c a (a.performSequence c stow lower).1 := by
  unfold Acting.performSequence
  split
  · split
    · exact .refl a
    · exact stowAction a
  · split
    · exact lowerAction a
    · exact .refl a

end Acting.HandedOn

end Sys2Proof.Machine
end

section
/-! PROOFS. O8: START (R53, R71, R85, R179). -/

namespace Sys2Proof.Machine

/-! ### The checks (R179) -/

theorem Tables.limitsSet_iff (t : Tables) :
    t.limitsSet = true ↔ ∀ x, (t.motion.get x).softMin < (t.motion.get x).softMax := by
  simp only [Tables.limitsSet, List.all_eq_true, decide_eq_true_eq, mem_axisList, true_imp_iff]

theorem Tables.drivesNamed_iff (t : Tables) : t.drivesNamed = true ↔
    ∀ x, (t.node (t.guard.get x).drive).present = true ∧ (t.node (t.guard.get x).drive).role = .drive
      ∧ (t.node (t.guard.get x).drive).port = .d := by
  simp only [Tables.drivesNamed, List.all_eq_true, Bool.and_eq_true, decide_eq_true_eq, mem_axisList, true_imp_iff,
    and_assoc]

theorem Axis.forall_iff {P : Axis → Prop} : (∀ x, P x) ↔ P .mast ∧ P .pan ∧ P .tilt :=
  ⟨fun h => ⟨h .mast, h .pan, h .tilt⟩, fun ⟨mast, pan, tilt⟩ x => by cases x <;> assumption⟩

theorem startChecks_eq (c : Ctx) : startChecks c =
    if c.sen.mode = .operating then some .noChange
    else if c.tab.bankEmpty c.tab.active = true then some .emptyRules
    else if ¬c.tab.limitsSet = true then some .axisLimits
    else if ¬c.tab.drivesNamed = true then some .noDrive
    else if c.sen.estop = true then some .estopActive
    else none := by
  simp only [startChecks, ← Ctx.operating_iff, Bool.not_eq_true, Bool.not_eq_true']

namespace Part

variable {p : Part}

theorem startFrame_refused {r : Result} (h : startChecks p.ctx = some r) : p.startFrame [] = (p, r) := by
  unfold startFrame
  rw [h]
  rfl

theorem startFrame_done (h : startChecks p.ctx = none) : p.startFrame [] = (p.starts, .done) := by
  unfold startFrame
  rw [h]
  rfl

end Part

/-! ### The axes after START (R71, R85) -/

/-- In OPERATING every axis is sent its immediate zero. -/
theorem immediateZeros_all {c : Ctx} (hm : c.sen.mode = .operating) :
    immediateZeros c everyAxis = fun _ => some 0 :=
  funext fun x => (immediateZeros_eq c everyAxis x).trans (if_pos ⟨hm, rfl⟩)

namespace Acting

/-- R78: a new permit set changes nothing that a drive at rest was sent, nor when it is due. -/
theorem seePermit_sameDrive {c : Ctx} {old : BitVec 7} {a : Acting} (h : ∀ x, (a.axes.get x).vPrev = 0) (x : Axis) :
    (a.axes.get x).SameDrive ((a.seePermit c old).axes.get x) := by
  have kept : (a.permitHeld c old).axes.get x = a.axes.get x :=
    (permitHeld_get c old a x).trans (if_neg fun lost => (lostDirection_iff.1 lost).1 (h x))
  have handed : HandedOn c (a.permitHeld c old) (a.seePermit c old) :=
    .trans (.trans (.handAxes a.axes _) (.searchSeesPermit old _)) (.status _)
  exact kept ▸ handed.sameDrive x

end Acting

namespace Part

variable {p : Part}

/-- R55: so does the forming of the permit set. -/
theorem formPermit_sameDrive (h : ∀ x, (p.act.axes.get x).vPrev = 0) (x : Axis) :
    (p.act.axes.get x).SameDrive (p.formPermit.act.axes.get x) := by
  by_cases hp : p.sen.permit = p.ctx.permitSet
  · rw [formPermit_same hp]
    exact .refl _
  · rw [formPermit_changed hp]
    exact Acting.seePermit_sameDrive h x

/-- R53: the actions performed at START claim axes, and move none. -/
theorem startActions_sameDrive (p : Part) (x : Axis) :
    (p.act.axes.get x).SameDrive (p.startActions.act.axes.get x) :=
  (Acting.HandedOn.performSequence _ _ p.act).sameDrive x

end Part

/-- Settles O8. -/
theorem startOperates : Obligations.StartOperates := by
  refine ⟨fun c => ?_, fun s h hc => ⟨fun r hr => ?_, fun hr => ?_⟩⟩
  · simp only [startChecks_eq, Tables.bankEmpty_iff, Tables.limitsSet_iff, Tables.drivesNamed_iff, Axis.forall_iff,
      PerAxis.get_mast, PerAxis.get_pan, PerAxis.get_tilt]
  · exact exec_answered rfl hc (by decide) (by decide)
      (congrArg (answer (frameOf h .start [])) (Part.startFrame_refused hr))
  · set e := s.entered h
    set operating : Sensed := { e.sen with mode := .operating }
    set b := e.act.startAxes ⟨s.part.tab, operating⟩
    set q := ({ e with sen := operating, act := b } : Part).formPermit
    have shifted : b = e.act.shift ⟨s.part.tab, operating⟩ (fun _ => some 0)
        (fun x r => r.started (s.part.tab.motion.get x) (s.part.tab.guard.get x)) :=
      congrArg (e.act.shift ⟨s.part.tab, operating⟩ · _) (immediateZeros_all rfl)
    have axes (x : Axis) : b.axes.get x =
        (s.part.act.axes.get x).started (s.part.tab.motion.get x) (s.part.tab.guard.get x) :=
      Acting.shift_get _ _ _ _ _
    have sense : q.sen = { operating with permit := (Part.ctx { e with sen := operating, act := b }).permitSet } :=
      Part.formPermit_sen _
    have tables : q.tab = s.part.tab := (Part.SameSense.formPermit _).tab
    have law : q.sen.permit = q.ctx.permitSet := Part.formPermit_permitLaw _
    have drive (x : Axis) : (b.axes.get x).SameDrive (q.startActions.act.axes.get x) :=
      (Part.formPermit_sameDrive (fun y => congrArg AxisRun.vPrev (axes y)) x).trans (q.startActions_sameDrive x)
    refine ⟨b, q, q.startActions, ?_, rfl, rfl, shifted, axes, Acting.shift_search _ _ _ _, Acting.shift_seq _ _ _ _,
      ?_, fun hd x => Acting.sends_shift rfl hd _ _, law, rfl, ?_, law, ?_, tables, ?_, ?_, fun x => ?_⟩
    · exact exec_answered rfl hc (by decide) (by decide)
        (congrArg (answer (frameOf h .start [])) (Part.startFrame_done hr))
    · exact (Acting.shift_pointing _ _ _ _).trans rfl
    · exact congrArg Sensed.mode sense
    · exact (congrArg Sensed.groups sense).trans rfl
    · exact (congrArg Sensed.image sense).trans rfl
    · exact (congrArg Sensed.filters sense).trans rfl
    · obtain ⟨vPrev, update, age⟩ := drive x
      rw [axes x] at vPrev update age
      exact ⟨vPrev, update, age⟩

end Sys2Proof.Machine
end

section
/-! SUPPORT. What a command can do to the part, said once: `Acting.Event` lists what the acting blocks are handed,
`Output.Op` what is done to the output side apart from them, and `Part.Change` what a command's effect is made of. Every
step is made of these changes, or of one of the two resets and these changes (`step_changes`), so that a law is shown
for every step by showing it for the constructors. -/

namespace Sys2Proof.Machine

/-- What the acting blocks are handed: the events of axis control, the search, pointing and the sequencer, the commands
they take, and the frames of the part's own. -/
inductive Acting.Event : (Ctx → Acting → Acting) → Prop
  | losePosition (x : Axis) : Event fun c a => a.losePosition c x
  | guardMast : Event Acting.guardMast
  | cutOffAll : Event Acting.cutOffAll
  | enterCause (f : SuspendCauses → SuspendCauses) : Event fun c a => a.enterCause c f
  | searchLevel (v : Int) : Event fun c a => a.searchLevel c v
  | perform (rules : List Rule) (changes : List (Group × Group)) : Event fun c a => (a.perform c rules changes).1
  | performSequence (stow lower : Bool) : Event fun c a => (a.performSequence c stow lower).1
  | groupEvent (rules : List Rule) (d : Performed) (old new : Group) : Event fun c a => a.groupEvent c rules d old new
  | reopenDrives : Event Acting.reopenDrives
  | updateExpired (x : Axis) : Event fun c a => a.updateExpired c x
  | jogExpired (x : Axis) : Event fun c a => a.jogExpired c x
  | stallExpired (x : Axis) : Event fun c a => a.stallExpired c x
  | driveAgeExpired (x : Axis) : Event fun c a => a.driveAgeExpired c x
  | suspendExpired : Event Acting.suspendExpired
  | phaseExpired : Event Acting.phaseExpired
  | driveReport (x : Axis) (d : DriveState) (w : Word) : Event fun c a => a.driveReport c x d w
  | takeAim (n : Node) (ws : List Word) : Event fun c a => a.takeAim c n ws
  | takeGoto (n : Node) (ws : List Word) : Event fun c a => a.takeGoto c n ws
  | jog (n : Node) (x : Axis) (rate : Int) : Event fun c a => (a.jog c n x rate).1
  | stopNamed (named : Axis → Bool) : Event fun c a => a.stopNamed c named
  | stowFrame : Event fun c a => (a.stowFrame c).1
  | startSearch (n : Node) : Event fun c a => (a.startSearch c n).1
  | searchEndFrame : Event fun c a => (a.searchEndFrame c).1
  | clearNamed (named : Axis → Bool) : Event fun c a => (a.clearNamed c named).1
  | raise (k : EventKind) (ws : List Word) : Event fun c a => a.raise c k ws
  | requestStatus : Event Acting.requestStatus
  | reply (n : Node) (k : Kind) (r : Result) (ws : List Word) : Event fun c a => a.reply c n k r ws

/-- Every event is a change that the acting side can make. -/
theorem Acting.Event.reach {f : Ctx → Acting → Acting} (h : Acting.Event f) (c : Ctx) (a : Acting) :
    Acting.Reach c a (f c a) := by
  cases h with
  | losePosition x => exact .losePosition a x
  | guardMast => exact .guardMast a
  | cutOffAll => exact .cutOffAll a
  | enterCause f => exact .enterCause a f
  | searchLevel v => exact .searchLevel a v
  | perform rules changes => exact .perform a rules changes
  | performSequence stow lower => exact .performSequence a stow lower
  | groupEvent rules d old new => exact .groupEvent a rules d old new
  | reopenDrives => exact .reopenDrives a
  | updateExpired x => exact .updateExpired a x
  | jogExpired x => exact .jogExpired a x
  | stallExpired x => exact .stallExpired a x
  | driveAgeExpired x => exact .driveAgeExpired a x
  | suspendExpired => exact .suspendExpired a
  | phaseExpired => exact .phaseExpired a
  | driveReport x d w => exact .driveReport a x d w
  | takeAim n ws => exact .takeAim a n ws
  | takeGoto n ws => exact .takeGoto a n ws
  | jog n x rate => exact .jog a n x rate
  | stopNamed named => exact .stopNamed a named
  | stowFrame => exact .stowFrame a
  | startSearch n => exact .startSearch a n
  | searchEndFrame => exact .searchEndFrame a
  | clearNamed named => exact .clearNamed a named
  | raise k ws => exact .raise a k ws
  | requestStatus => exact .status a
  | reply n k r ws => exact .reply a n k r ws

/-- What is done to the output side apart from those events: frames that are forwarded, copied, judged, completed and
dropped, and the changes that touch no queue. -/
inductive Output.Op (t : Tables) (v : List Word) : Output → Output → Prop
  | aside (o o' : Output) (urgent : o'.urgent = o.urgent := by rfl) (routine : o'.routine = o.routine := by rfl)
      (driveQueue : o'.driveQueue = o.driveQueue := by rfl)
      (sensorQueue : o'.sensorQueue = o.sensorQueue := by rfl) : Op t v o o'
  | drop (d : DropRecord) (o : Output) : Op t v o (o.drop t v d)
  | mirror (f : Frame) (o : Output) : Op t v o (o.mirror t v f)
  | forward (k : Port) (f : Frame) (o : Output) : Op t v o (o.forward t v k f)
  | judge (k : Port) (st : PortState) (o : Output) : Op t v o (o.judgeWaiting t v k st)
  | complete (k : Port) (o : Output) : Op t v o (o.complete t v k)

/-- R62, R63: the write of a guard record whose drive node clashes with no other. -/
def Part.guarded (x : Axis) (g : GuardRecord) (p : Part) : Part :=
  let q := p.tabled fun t => { t with guard := t.guard.set x g }
  if g.drive = (p.tab.guard.get x).drive then q else q.acting fun c a => a.newDrive c x

/-- R180: the part at a power-on reset, before its ESTOP input is seen. -/
def Part.blank (straps : BitVec 2) (pins : BitVec 8) : Part where
  tab := Tables.default straps
  sen := Sensed.powerOn (Tables.default straps) pins
  act := Acting.start (Tables.default straps).search.s0 (Tables.default straps).report.period

/-- R181: the frame is a RESET without payload, which resets the part. -/
def Frame.resets (f : Frame) : Prop := f.kind = .reset ∧ f.payload = []

/-- What the effect of a command is made of; `reset` says that it may be one of the two resets. -/
inductive Part.Change (reset : Prop) : Part → Part → Prop
  | refl (p : Part) : Change reset p p
  | trans {p q r : Part} (h₁ : Change reset p q) (h₂ : Change reset q r) : Change reset p r
  | event {f : Ctx → Acting → Acting} (h : Acting.Event f) (p : Part) : Change reset p (p.acting f)
  | output (p : Part) (o : Output) (h : Output.Op p.tab (statusWords p.ctx p.act) p.act.out o) :
      Change reset p { p with act := { p.act with out := o } }
  | lineWrites (p : Part) (ws : List Int) : Change reset p { p with act := { p.act with lineWrites := ws } }
  | formLines (p : Part) : Change reset p p.formLines
  | formPermit (p : Part) : Change reset p p.formPermit
  | sense (p : Part) (n : Sensed) (mode : n.mode = p.sen.mode := by rfl)
      (permit : n.permit = p.sen.permit := by rfl) : Change reset p { p with sen := n }
  | tables (p : Part) (t : Tables) (guard : t.guard = p.tab.guard := by rfl) : Change reset p { p with tab := t }
  | guard (p : Part) (x : Axis) (g : GuardRecord) (h : ¬driveClashes p.tab x g = true) : Change reset p (p.guarded x g)
  | operate (p : Part) :
      Change reset p (({ p with sen := { p.sen with mode := .operating } } : Part).acting Acting.startAxes)
  | pass (p : Part) (d : Nat) : Change reset p (p.pass d)
  | warm (h : reset) (p : Part) : Change reset p p.warm
  | blank (h : reset) (straps : BitVec 2) (pins : BitVec 8) (p : Part) : Change reset p (Part.blank straps pins)

/-- The command is one of the two resets. -/
def IsReset (i : Instr) : Prop :=
  (∃ straps pins, i = .powerOnReset straps pins) ∨ ∃ port f, i.arrival = some (port, f) ∧ f.resets

namespace Part.Change

variable {reset : Prop} {p q : Part}

/-- What may be a reset may be one under a weaker condition. -/
theorem mono {reset' : Prop} (h : p.Change reset q) (weaker : reset → reset') : p.Change reset' q := by
  induction h with
  | refl p => exact .refl p
  | trans _ _ ih₁ ih₂ => exact ih₁.trans ih₂
  | event h p => exact .event h p
  | output p o h => exact .output p o h
  | lineWrites p ws => exact .lineWrites p ws
  | formLines p => exact .formLines p
  | formPermit p => exact .formPermit p
  | sense p n mode permit => exact .sense p n mode permit
  | tables p t guard => exact .tables p t guard
  | guard p x g h => exact .guard p x g h
  | operate p => exact .operate p
  | pass p d => exact .pass p d
  | warm h p => exact .warm (weaker h) p
  | blank h straps pins p => exact .blank (weaker h) straps pins p

/-- An event follows what has changed before it. -/
theorem then_event (h : p.Change reset q) {f : Ctx → Acting → Acting} (hf : Acting.Event f) : p.Change reset (q.acting f) :=
  h.trans (.event hf q)

theorem ite {b : Prop} [Decidable b] (h : b → p.Change reset q) : p.Change reset (if b then q else p) := by
  split
  next hb => exact h hb
  · exact .refl p

theorem drop (d : DropRecord) (p : Part) : p.Change reset (p.drop d) := .output p _ (.drop d _)

theorem reply (n : Node) (k : Kind) (r : Result) (ws : List Word) (p : Part) : p.Change reset (p.reply n k r ws) :=
  .event (.reply n k r ws) p

theorem answer (f : Frame) {r : Part × Result} (h : p.Change reset r.1) : p.Change reset (answer f r) :=
  h.then_event (.reply _ _ _ _)

/-! ### Evaluations and the line set's arrivals -/

theorem groupEvents (rules : List Rule) (d : Performed) (changes : List (Group × Group)) (p : Part) (c : Ctx)
    (hc : c = p.ctx) :
    p.Change reset { p with act := changes.foldl (fun a ch => a.groupEvent c rules d ch.1 ch.2) p.act } := by
  subst hc
  induction changes generalizing p with
  | nil => exact .refl p
  | cons ch rest ih => exact .trans (.event (.groupEvent rules d ch.1 ch.2) p) (ih _)

theorem evaluate (concerned : Group → Bool) (p : Part) : p.Change reset (p.evaluate concerned) := by
  set grouped : Part := { p with sen := { p.sen with groups := p.evaluatedGroups concerned } } with hg
  have permitted : p.Change reset grouped.formLines.formPermit :=
    .trans (.trans (.sense p _) (.formLines grouped)) (.formPermit _)
  exact .trans (permitted.then_event (.perform p.tab.activeRules (p.sen.groups.zip (p.evaluatedGroups concerned))))
    (groupEvents _ _ _ _ _ rfl)

theorem takeLines (v : Int) (p : Part) : p.Change reset (p.takeLines v) :=
  .trans (.sense p (p.sen.writeLines v)) (evaluate _ _)

theorem followLines (n : Nat) (p : Part) : p.Change reset (Part.followLines n p) := by
  induction n generalizing p with
  | zero => exact .refl p
  | succ n ih =>
    unfold Part.followLines
    split
    · exact .refl p
    next v rest _ => exact .trans (.trans (.lineWrites p rest) (takeLines v _)) (ih _)

theorem settle (p : Part) : p.Change reset p.settle := .trans (.formLines p) (followLines _ _)

/-! ### The sensor image and the lines -/

theorem told (q : Fin 24) (p : Part) : p.Change reset (p.formLines.evaluateFor q) := .trans (.formLines p) (evaluate _ _)

theorem valueTaken (q : Fin 24) (v : Int) (p : Part) : p.Change reset (p.valueTaken q v) := by
  unfold Part.valueTaken
  dsimp only
  refine .trans (.trans (told q p) ?_) (settle _)
  exact ite fun _ => .event (.searchLevel v) _

theorem wentStale (q : Fin 24) (p : Part) : p.Change reset (p.wentStale q) := by
  unfold Part.wentStale
  dsimp only
  refine .trans ?_ (ite fun _ => .event (.enterCause _) _)
  split
  · exact (told q p).then_event (.losePosition .mast)
  next x _ _ => exact ((told q p).then_event (.losePosition x)).then_event .guardMast
  · exact told q p

theorem takePair (sender : Node) (q : Fin 24) (v : Int) (p : Part) : p.Change reset (p.takePair sender q v) := by
  unfold Part.takePair
  dsimp only
  split
  · exact .trans (.sense p _) (valueTaken q v _)
  · exact .sense p _

theorem takePairs (sender : Node) : ∀ (ws : List Word) (p : Part), p.Change reset (p.takePairs sender ws)
  | [], p => .refl p
  | [_], p => .refl p
  | _ :: _ :: rest, p => .trans (takePair sender _ _ p) (takePairs sender rest _)

theorem ageExpired (q : Fin 24) (p : Part) : p.Change reset (p.ageExpired q) :=
  ite fun _ => .trans (.sense p _) (wentStale q _)

theorem estopChanged (p : Part) : p.Change reset p.estopChanged := by
  unfold Part.estopChanged
  exact (trans (ite fun _ => .event .cutOffAll p) (.formPermit _)).then_event (.raise _ _)

theorem sampleLines (pins : BitVec 8) (p : Part) : p.Change reset (p.sampleLines pins) := by
  have sampled : p.Change reset (p.sampled pins).formLines := .trans (.sense p (p.sampled pins).sen) (.formLines _)
  by_cases he : (p.sampled pins).sen.estop = p.sen.estop
  · rw [Part.sampleLines_kept he]
    exact sampled
  · rw [Part.sampleLines_changed he]
    exact sampled.trans (estopChanged _)

/-! ### The table writes -/

theorem writeNode (i : Int) (fs : List Word) (p : Part) : p.Change reset (p.writeNode i fs).1 := by
  unfold Part.writeNode
  dsimp only
  repeat' split
  case h_2.isFalse => exact .trans (.tables p _) (.sense _ _)
  all_goals exact .refl p

theorem rangeChanged (q : Fin 24) (e : QuantityEntry) (p : Part) : p.Change reset (p.rangeChanged q e) :=
  ite fun _ => .trans (.sense p _) (wentStale q _)

theorem writeQuantity (i : Int) (fs : List Word) (p : Part) : p.Change reset (p.writeQuantity i fs).1 := by
  unfold Part.writeQuantity
  dsimp only
  repeat' split
  case h_2.isFalse => exact .trans (.tables p _) (rangeChanged _ _ _)
  all_goals exact .refl p

theorem writeRule (which : Bank) (i : Int) (fs : List Word) (p : Part) : p.Change reset (p.writeRule which i fs).1 := by
  unfold Part.writeRule
  repeat' split
  case h_2 => cases which <;> exact .tables p _
  all_goals exact .refl p

theorem writeMotion (i : Int) (fs : List Word) (p : Part) : p.Change reset (p.writeMotion i fs).1 := by
  unfold Part.writeMotion
  dsimp only
  repeat' split
  exacts [.refl p, .refl p, .refl p, .tables p _, .refl p]

theorem writeGuard (i : Int) (fs : List Word) (p : Part) : p.Change reset (p.writeGuard i fs).1 := by
  unfold Part.writeGuard
  split
  · exact .refl p
  split
  · exact .refl p
  split
  · exact .refl p
  split
  · exact .refl p
  next x _ _ _ g _ clear => exact .guard p x g clear

theorem writePreset (i : Int) (fs : List Word) (p : Part) : p.Change reset (p.writePreset i fs).1 := by
  unfold Part.writePreset
  repeat' split
  exacts [.refl p, .refl p, .tables p _]

theorem writeSearch (i : Int) (fs : List Word) (p : Part) : p.Change reset (p.writeSearch i fs).1 := by
  unfold Part.writeSearch
  repeat' split
  exacts [.refl p, .refl p, .refl p, .tables p _]

theorem writePointing (i : Int) (fs : List Word) (p : Part) : p.Change reset (p.writePointing i fs).1 := by
  unfold Part.writePointing
  repeat' split
  exacts [.refl p, .refl p, .trans (.tables p _) (.event .guardMast _)]

theorem writeLine (i : Int) (fs : List Word) (p : Part) : p.Change reset (p.writeLine i fs).1 := by
  unfold Part.writeLine
  repeat' split
  exacts [.refl p, .refl p, .refl p, .trans (.tables p _) (.sense _ _)]

theorem portChanged (k : Port) (old : PortState) (p : Part) : p.Change reset (p.portChanged k old) := by
  have judged : p.Change reset (p.acting fun c a => a.emit c fun t v o => o.judgeWaiting t v k (p.tab.ports.get k).state) :=
    .output p _ (.judge k _ _)
  unfold Part.portChanged
  dsimp only
  split
  · exact .refl p
  · exact judged.trans (ite fun _ => .event .reopenDrives _)

theorem writePort (i : Int) (fs : List Word) (p : Part) : p.Change reset (p.writePort i fs).1 := by
  unfold Part.writePort
  dsimp only
  repeat' split
  case h_2.isFalse.isFalse => exact .trans (.tables p _) (portChanged _ _ _)
  all_goals exact .refl p

theorem writeReport (i : Int) (fs : List Word) (p : Part) : p.Change reset (p.writeReport i fs).1 := by
  unfold Part.writeReport
  repeat' split
  exacts [.refl p, .refl p, .trans (.tables p _) (.output _ _ (.aside _ _))]

theorem tableWrite (ws : List Word) (p : Part) : p.Change reset (p.tableWrite ws).1 := by
  unfold Part.tableWrite
  repeat' split
  exacts [writeNode _ _ p, writeQuantity _ _ p, writeRule _ _ _ p, writeRule _ _ _ p, writeMotion _ _ p,
    writeGuard _ _ p, writePreset _ _ p, writeSearch _ _ p, writePointing _ _ p, writeLine _ _ p, writePort _ _ p,
    writeReport _ _ p, .refl p, .refl p]

/-! ### The other frames -/

theorem doing {f : Ctx → Acting → Acting × Result} (hf : Acting.Event fun c a => (f c a).1) (p : Part) :
    p.Change reset (p.doing f).1 := .event hf p

theorem bare (ws : List Word) {f : Ctx → Acting → Acting × Result} (hf : Acting.Event fun c a => (f c a).1)
    (p : Part) : p.Change reset (p.bare ws f).1 := by
  unfold Part.bare
  split
  · exact .refl p
  · exact doing hf p

theorem naming (ws : List Word) {f : (Axis → Bool) → Ctx → Acting → Acting × Result}
    (hf : ∀ named, Acting.Event fun c a => (f named c a).1) (p : Part) : p.Change reset (p.naming ws f).1 := by
  unfold Part.naming
  repeat' split
  exacts [doing (hf _) p, .refl p, .refl p]

theorem jogFrame (n : Node) (ws : List Word) (p : Part) : p.Change reset (p.jogFrame n ws).1 := by
  unfold Part.jogFrame
  repeat' split
  exacts [doing (.jog _ _ _) p, .refl p, .refl p]

theorem starts (p : Part) : p.Change reset p.starts :=
  (trans (.operate p) (.formPermit _)).then_event (.performSequence _ _)

theorem startFrame (ws : List Word) (p : Part) : p.Change reset (p.startFrame ws).1 := by
  unfold Part.startFrame
  repeat' split
  exacts [.refl p, .refl p, starts p]

theorem swapTo (which : Bank) (p : Part) : p.Change reset (p.swapTo which) :=
  .trans (.trans (.trans (.tables p { p.tab with active := which }) (.sense _ _)) (.lineWrites _ [])) (takeLines _ _)

theorem swapFrame (ws : List Word) (p : Part) : p.Change reset (p.swapFrame ws).1 := by
  unfold Part.swapFrame Part.bankSwap
  repeat' split
  exacts [.refl p, .refl p, swapTo _ p, .refl p, .refl p]

theorem readCounters (ws : List Word) (p : Part) : p.Change reset (p.readCounters ws).1 := by
  unfold Part.readCounters
  repeat' split
  exacts [.output p _ (.aside _ _), .refl p, .refl p]

theorem readDrops (ws : List Word) (p : Part) : p.Change reset (p.readDrops ws).1 := by
  unfold Part.readDrops
  split
  exacts [.refl p, .output p _ (.aside _ _)]

theorem linesSet (ws : List Word) (p : Part) : p.Change reset (p.linesSet ws).1 := by
  unfold Part.linesSet
  split
  · split
    exacts [.tables p _, .refl p]
  · exact .refl p

theorem lampTest (ws : List Word) (p : Part) : p.Change reset (p.lampTest ws).1 := by
  unfold Part.lampTest
  repeat' split
  exacts [.sense p _, .refl p, .refl p]

theorem takeDriveStatus (n : Node) (ws : List Word) (p : Part) : p.Change reset (p.takeDriveStatus n ws) := by
  unfold Part.takeDriveStatus
  repeat' split
  exacts [.event (.driveReport _ _ _) p, .refl p, .refl p]

theorem takeDemand (f : Frame) (p : Part) : p.Change reset (p.takeDemand f) := by
  unfold Part.takeDemand
  split
  exacts [answer f (doing (.jog _ _ _) p), answer f (.refl p)]

theorem readStatus (f : Frame) (p : Part) : p.Change reset (p.readStatus f) := by
  unfold Part.readStatus
  split
  exacts [answer f (.refl p), .event .requestStatus p]

theorem tableReadFrame (f : Frame) (p : Part) : p.Change reset (p.tableReadFrame f) := by
  unfold Part.tableReadFrame
  split
  exacts [reply _ _ _ _ p, answer f (.refl p)]

/-! ### Arrivals -/

theorem resetFrame (n : Node) (ws : List Word) (p : Part) (h : ws = [] → reset) :
    p.Change reset (p.resetFrame n ws) := by
  unfold Part.resetFrame
  split
  · exact reply _ _ _ _ p
  next hw => exact .trans (.trans (.warm (h (not_not.1 hw)) p) (reply _ _ _ _ _)) (takeLines _ _)

theorem take (f : Frame) (p : Part) (h : f.resets → reset) : p.Change reset (p.take f) := by
  unfold Part.take
  split
  · exact takePairs _ _ p
  · exact takeDriveStatus _ _ p
  · exact .event (.takeAim _ _) p
  · exact .event (.takeGoto _ _) p
  · exact answer f (jogFrame _ _ p)
  · exact answer f (naming _ (fun named => .stopNamed named) p)
  · exact answer f (bare _ .stowFrame p)
  · exact answer f (bare _ (.startSearch _) p)
  · exact answer f (bare _ .searchEndFrame p)
  · exact answer f (naming _ (fun named => .clearNamed named) p)
  · exact answer f (startFrame _ p)
  next hk => exact resetFrame _ _ p fun hw => h ⟨hk, hw⟩
  · exact answer f (tableWrite _ p)
  · exact tableReadFrame f p
  · exact answer f (swapFrame _ p)
  · exact readStatus f p
  · exact (readCounters _ p).then_event (.reply _ _ _ _)
  · exact (readDrops _ p).then_event (.reply _ _ _ _)
  · exact answer f (linesSet _ p)
  · exact answer f (lampTest _ p)
  all_goals exact .refl p

theorem consume (port : Port) (f : Frame) (p : Part) (h : f.resets → reset) : p.Change reset (p.consume port f) := by
  unfold Part.consume
  dsimp only
  split
  · exact (take f p h).trans (.output _ _ (.mirror _ _))
  · exact take f p h

theorem forward (port dest : Port) (f : Frame) (p : Part) : p.Change reset (p.forward port dest f) := by
  unfold Part.forward
  split
  · exact drop _ p
  · exact .output p _ (.forward _ _ _)

theorem route (port : Port) (f : Frame) (p : Part) (h : f.resets → reset) : p.Change reset (p.route port f) := by
  unfold Part.route
  repeat' split
  exacts [consume port f p h, .refl p, takeDemand f p, forward _ _ _ p, drop _ p]

theorem received (port : Port) (p : Part) : p.Change reset (p.received port) := .output p _ (.aside _ _)

theorem arrive (port : Port) (f : Frame) (p : Part) (h : f.resets → reset) : p.Change reset (p.arrive port f) := by
  unfold Part.arrive
  dsimp only
  split
  · exact (received port p).trans (drop _ _)
  · exact .trans (.trans (received port p) (.sense _ _)) (route port f _ h)

theorem arriveWords (port : Port) (framing : Bool) (ws : List Word) (p : Part)
    (h : ∀ f, readWords framing ws = some f → f.resets → reset) : p.Change reset (p.arriveWords port framing ws) := by
  unfold Part.arriveWords
  split
  next f hf => exact arrive port f p (h f hf)
  · exact (received port p).trans (drop _ _)

/-! ### Resets and timers -/

theorem powerOn (straps : BitVec 2) (pins : BitVec 8) (p : Part) (h : reset) :
    p.Change reset (Part.powerOn straps pins) := by
  unfold Part.powerOn
  dsimp only
  split
  · exact .trans (.blank h straps pins p) (estopChanged _)
  · exact .blank h straps pins p

theorem refill (p : Part) : p.Change reset p.refill := by
  unfold Part.refill
  split
  exacts [.refl p, .sense p _]

theorem statusExpired (p : Part) : p.Change reset (p.acting Acting.statusExpired) := by
  unfold Part.acting Acting.statusExpired
  split
  · exact .refl p
  · exact .trans (.output p { p.act.out with statusTimer := some (p.tab.report.period * 10000) } (.aside _ _))
      (.event .requestStatus _)

theorem live {f : Part → Part} (h : p.Change reset (f p)) : p.Change reset (p.live f) := by
  unfold Part.live
  split
  · exact .refl p
  · exact h.trans (settle _)

/-! ### Every step -/

/-- The effect of a command is made of the changes, with a reset only where the command is one. -/
theorem exec (i : Instr) {s s' : State} (he : exec i s = .next s') : s.part.Change (IsReset i) s'.part := by
  have runs : ∀ f : Part → Part, s.run f = .next s' → s.part.Change (IsReset i) (f s.part) →
      s.part.Change (IsReset i) s'.part := by
    intro f e hf
    rw [State.run_next e]
    exact live hf
  have arrives : ∀ (port : Port) (f : Frame), i.arrival = some (port, f) →
      (s.run fun p => p.arrive port f) = .next s' → s.part.Change (IsReset i) s'.part :=
    fun port f hi e => runs _ e (arrive port f _ fun hf => .inr ⟨port, f, hi, hf⟩)
  have acts : ∀ {f : Ctx → Acting → Acting}, (s.run fun p => p.acting f) = .next s' → Acting.Event f →
      s.part.Change (IsReset i) s'.part := fun e hf => runs _ e (.event hf _)
  cases i
  case powerOnReset straps pins =>
    rw [← Host.Outcome.next.inj he]
    exact powerOn straps pins _ (.inl ⟨straps, pins, rfl⟩)
  case resetInputAsserted =>
    rw [← Host.Outcome.next.inj he]
    exact .trans (.sense _ { s.part.sen with held := true }) (.output _ _ (.aside _ _))
  case ageExpiry q => exact runs _ he (ageExpired q _)
  case filteredLevelChange pins => exact runs _ he (sampleLines pins _)
  case inputSample pins => exact runs _ he (sampleLines pins _)
  case frameDropped port framing ws =>
    exact runs _ he (arriveWords port framing ws _ fun f hf hr =>
      .inr ⟨port, f, by rw [Instr.arrival, hf]; rfl, hr⟩)
  case tableWriteLine hd pins i fs =>
    exact runs _ he (.trans (.sense _ (s.part.seePins pins).sen) (arrive hd.port _ _ fun hf => nomatch hf.1))
  case updateExpiry x => exact acts he (.updateExpired x)
  case jogTimerExpiry x => exact acts he (.jogExpired x)
  case stallTimerExpiry x => exact acts he (.stallExpired x)
  case driveAgeExpiry x => exact acts he (.driveAgeExpired x)
  case suspendTimerExpiry => exact acts he .suspendExpired
  case phaseTimerExpiry => exact acts he .phaseExpired
  case refillTimerExpiry => exact runs _ he (refill _)
  case statusTimerExpiry => exact runs _ he (statusExpired _)
  case transmissionComplete k => exact runs _ he (.output _ _ (.complete k _))
  all_goals exact arrives _ _ rfl he

end Part.Change

/-- No command that the passing of time brings is a reset. -/
theorem Part.due_not_isReset {p : Part} {i : Instr} (h : p.due = some i) : ¬IsReset i := by
  obtain ⟨t, found, rfl⟩ := Option.map_eq_some_iff.1 h
  have timed : t.2.arrival = none ∧ ∀ straps pins, t.2 ≠ .powerOnReset straps pins := by
    have listed := List.mem_of_find?_eq_some found
    simp only [Part.timers, AxisRun.timers, Output.txTimer, axisList, List.mem_append, List.mem_map, List.mem_flatMap,
      List.mem_cons, List.not_mem_nil, or_false] at listed
    rcases listed with (((rfl | rfl | rfl) | ⟨q, -, rfl⟩) | ⟨x, -, rfl | rfl | rfl | rfl⟩) | rfl | rfl | rfl | rfl | rfl <;>
      exact ⟨rfl, fun _ _ => nofun⟩
  rintro (⟨straps, pins, e⟩ | ⟨port, f, e, -⟩)
  · exact timed.2 _ _ e
  · exact nomatch timed.1.symm.trans e

/-- Every step is made of the changes, with a reset only where its command is one. -/
theorem step_changes {s s' : State} (h : step s = .next s') :
    s.part.Change (∃ c rest, s.pending = c :: rest ∧ IsReset c) s'.part := by
  unfold step State.idle at h
  repeat' split at h
  · exact Host.Outcome.next.inj h ▸ .refl _
  next i due => exact (Part.Change.exec i h).mono fun hi => absurd hi (Part.due_not_isReset due)
  · exact Host.Outcome.next.inj h ▸ .pass _ _
  · exact Host.Outcome.next.inj h ▸ .refl _
  next i rest pending =>
    exact (Part.Change.exec i (s := { s with pending := rest }) h).mono fun hi => ⟨i, rest, pending, hi⟩

end Sys2Proof.Machine
end

section
/-! PROOFS. O56: the laws of the queues (R62, R169, R170, R173). The law is taken apart into what it says of each queue;
an operation of the output side either takes entries out of queues, which keeps the law (`Output.Fewer`), or puts one
into a queue that has a place for it. -/

namespace Sys2Proof.Machine

/-- The laws of the three queues, under the guard records of `t`. -/
structure Output.Lawful (t : Tables) (o : Output) : Prop where
  placesC : o.waitingC ≤ Config.placesC
  urgent : ∀ e ∈ o.urgent, ¬e.isStatus = true
  routine : o.routine.countP CEntry.isStatus ≤ 1
  one : ∀ x, o.driveQueue.countP (DEntry.isDemandOf x) ≤ 1
  toDrive : ∀ x f, DEntry.demand x f ∈ o.driveQueue → f.dst = (t.guard.get x).drive
  data : o.driveQueue.countP DEntry.isData ≤ Config.placesData
  sensors : o.sensorQueue.length ≤ Config.placesS

/-- The queues of `o'` are those of `o`, with entries taken out. -/
structure Output.Fewer (o o' : Output) : Prop where
  urgent : o'.urgent.Sublist o.urgent := by exact .refl _
  routine : o'.routine.Sublist o.routine := by exact .refl _
  driveQueue : o'.driveQueue.Sublist o.driveQueue := by exact .refl _
  sensorQueue : o'.sensorQueue.Sublist o.sensorQueue := by exact .refl _

namespace Output.Fewer

variable {o o' o'' : Output}

theorem refl (o : Output) : o.Fewer o := {}

theorem trans (h₁ : o.Fewer o') (h₂ : o'.Fewer o'') : o.Fewer o'' :=
  ⟨h₂.urgent.trans h₁.urgent, h₂.routine.trans h₁.routine, h₂.driveQueue.trans h₁.driveQueue,
   h₂.sensorQueue.trans h₁.sensorQueue⟩

theorem transmitC (t : Tables) (v : List Word) (e : CEntry) (h : o.Fewer o') : o.Fewer (o'.transmitC t v e) := by
  unfold Output.transmitC
  split <;> exact h.trans {}

/-- R174: a port takes its next frame out of its queue. -/
theorem takeNext (t : Tables) (v : List Word) (k : Port) (o : Output) : o.Fewer (o.takeNext t v k) := by
  cases k <;> simp only [Output.takeNext] <;> split
  next e rest hq => exact .transmitC t v e { urgent := hq ▸ List.sublist_cons_self e rest }
  next e rest _ hq => exact .transmitC t v e { routine := hq ▸ List.sublist_cons_self e rest }
  · exact .refl o
  next f rest hq => exact { sensorQueue := hq ▸ List.sublist_cons_self f rest }
  · exact .refl o
  next e rest hq => exact { driveQueue := hq ▸ List.sublist_cons_self e rest }
  · exact .refl o

theorem startIfIdle (t : Tables) (v : List Word) (k : Port) (o : Output) : o.Fewer (o.startIfIdle t v k) := by
  unfold Output.startIfIdle
  split
  · exact takeNext t v k o
  · exact .refl o

theorem complete (t : Tables) (v : List Word) (k : Port) (o : Output) : o.Fewer (o.complete t v k) := by
  unfold Output.complete
  split
  · exact .trans (o' := ({ o with tx := o.tx.set k none } : Output).countSent k) {} (takeNext t v k _)
  · exact .refl o

theorem noteDrop (d : DropRecord) (o : Output) : o.Fewer (o.noteDrop d) := by
  unfold Output.noteDrop
  dsimp only
  repeat' split
  all_goals exact {}

end Output.Fewer

/-! ### The placements -/

/-- R169: how many entries of a sort wait after the placement of a DEMAND. -/
theorem countP_insertDemand {p : DEntry → Bool} {x : Axis} {f : Frame}
    (alike : ∀ g, p (.demand x g) = p (.demand x f)) (q : List DEntry) :
    (insertDemand x f q).countP p =
      q.countP p + (if q.any (DEntry.isDemandOf x) then 0 else if p (.demand x f) then 1 else 0) := by
  unfold insertDemand
  split
  · rw [List.countP_map, Nat.add_zero]
    refine List.countP_congr fun e _ => ?_
    dsimp only [Function.comp]
    split
    next hx =>
      cases e with
      | demand y g => rw [show y = x from of_decide_eq_true hx, alike g]
      | data g => cases hx
    · exact Iff.rfl
  · rw [List.countP_append, List.countP_singleton]

namespace Output.Lawful

variable {t : Tables} {o o' : Output}

theorem fewer (h : o.Lawful t) (s : o.Fewer o') : o'.Lawful t where
  placesC := (Nat.add_le_add s.urgent.length_le s.routine.length_le).trans h.placesC
  urgent e he := h.urgent e (s.urgent.subset he)
  routine := s.routine.countP_le.trans h.routine
  one x := s.driveQueue.countP_le.trans (h.one x)
  toDrive x f hf := h.toDrive x f (s.driveQueue.subset hf)
  data := s.driveQueue.countP_le.trans h.data
  sensors := s.sensorQueue.length_le.trans h.sensors

/-- The law asks of the tables only where the waiting DEMANDs go. -/
theorem retable {t' : Tables} (h : o.Lawful t)
    (same : ∀ x f, DEntry.demand x f ∈ o.driveQueue → (t'.guard.get x).drive = (t.guard.get x).drive) :
    o.Lawful t' :=
  { h with toDrive := fun x f hf => (h.toDrive x f hf).trans (same x f hf).symm }

/-- R171: an entry takes a place in the port C queue, a STATUS only a ROUTINE one, and only where none waits. -/
theorem insertC (h : o.Lawful t) {urgent : Bool} {e : CEntry}
    (he : e.isStatus = true → urgent = false ∧ o.routine.any CEntry.isStatus = false) :
    (o.insertC urgent e).1.Lawful t := by
  have frame : urgent = true → ¬e.isStatus = true := fun hu hs => nomatch hu.symm.trans (he hs).1
  have urgents : urgent = true → ∀ d ∈ o.urgent ++ [e], ¬d.isStatus = true := fun hu d hd =>
    (List.mem_append.1 hd).elim (h.urgent d) fun hm => List.mem_singleton.1 hm ▸ frame hu
  have oneStatus : (o.routine ++ [e]).countP CEntry.isStatus ≤ 1 := by
    rw [List.countP_append, List.countP_singleton]
    split
    next hs =>
      have alone : o.routine.countP CEntry.isStatus = 0 := by
        rw [List.countP_eq_zero]
        exact List.any_eq_false.1 (he hs).2
      exact alone ▸ Nat.le_refl _
    · exact h.routine
  unfold Output.insertC
  split
  next room =>
    split
    next hu =>
      refine { h with placesC := ?_, urgent := urgents hu }
      simp only [waitingC, List.length_append, List.length_singleton] at room ⊢
      omega
    · refine { h with placesC := ?_, routine := oneStatus }
      simp only [waitingC, List.length_append, List.length_singleton] at room ⊢
      omega
  next full =>
    split
    next hu =>
      split
      next newest last =>
        have some_routine : o.routine.length ≠ 0 := fun hl => by
          rw [List.length_eq_zero_iff.1 hl] at last
          cases last
        have places := h.placesC
        refine { h with
          placesC := ?_, urgent := urgents hu, routine := (List.dropLast_sublist _).countP_le.trans h.routine }
        simp only [waitingC, List.length_append, List.length_singleton, List.length_dropLast] at places ⊢
        omega
      · exact h
    · exact h

theorem placeQuiet (h : o.Lawful t) (t' : Tables) (v : List Word) (urgent : Bool) {e : CEntry}
    (he : ¬e.isStatus = true) : (o.placeQuiet t' v urgent e).Lawful t := by
  have placed := (h.insertC (urgent := urgent) fun hs => absurd hs he).fewer (.startIfIdle t' v .c _)
  unfold Output.placeQuiet
  dsimp only
  split
  · exact placed.fewer (.noteDrop _ _)
  · exact placed

theorem drop (h : o.Lawful t) (t' : Tables) (v : List Word) (d : DropRecord) : (o.drop t' v d).Lawful t := by
  have noted := h.fewer (.noteDrop d o)
  have seen : ((o.noteDrop d).see .dropRecorded).Lawful t := noted.fewer {}
  unfold Output.drop
  dsimp only
  split
  · split
    · exact seen.placeQuiet t' v true (by simp [CEntry.isStatus])
    · exact seen
  · exact noted

theorem dropAll (h : o.Lawful t) (t' : Tables) (v : List Word) (ds : List DropRecord) :
    (o.dropAll t' v ds).Lawful t := by
  unfold Output.dropAll
  induction ds generalizing o with
  | nil => exact h
  | cons d ds ih => exact ih (h.drop t' v d)

theorem placeC (h : o.Lawful t) (t' : Tables) (v : List Word) {urgent : Bool} {e : CEntry}
    (he : e.isStatus = true → urgent = false ∧ o.routine.any CEntry.isStatus = false) :
    (o.placeC t' v urgent e).Lawful t := by
  have placed := (h.insertC he).fewer (.startIfIdle t' v .c _)
  unfold Output.placeC
  dsimp only
  split
  · exact placed.drop t' v _
  · exact placed

theorem placeFrame (h : o.Lawful t) (t' : Tables) (v : List Word) (urgent : Bool) (origin : Origin) (f : Frame) :
    (o.placeC t' v urgent ⟨origin, .frame f⟩).Lawful t :=
  h.placeC t' v fun hs => absurd hs (by simp [CEntry.isStatus])

theorem raise (h : o.Lawful t) (t' : Tables) (v : List Word) (k : EventKind) (ws : List Word) :
    (o.raise t' v k ws).Lawful t := by
  have seen : (o.see k).Lawful t := h.fewer {}
  unfold Output.raise
  dsimp only
  split
  · exact seen.placeFrame t' v true _ _
  · exact seen

/-- R172: a STATUS is placed only where none waits. -/
theorem requestStatus (h : o.Lawful t) (t' : Tables) (v : List Word) : (o.requestStatus t' v).Lawful t := by
  unfold Output.requestStatus
  split
  · exact h
  next quiet => exact h.placeC t' v fun _ => ⟨rfl, Bool.not_eq_true _ ▸ quiet⟩

/-- R169: a DEMAND takes the place of the waiting one of its axis, or the back of the queue where there is none. -/
theorem insertDemand (h : o.Lawful t) (x : Axis) {f : Frame} (hf : f.dst = (t.guard.get x).drive) :
    Output.Lawful t { o with driveQueue := insertDemand x f o.driveQueue } := by
  refine { h with one := fun y => ?_, toDrive := fun y g hg => ?_, data := ?_ }
  · refine (countP_insertDemand (fun _ => rfl) _).trans_le ?_
    split
    · exact h.one y
    next quiet =>
      split
      next hy =>
        have none_waits : o.driveQueue.countP (DEntry.isDemandOf y) = 0 := by
          rw [List.countP_eq_zero, ← show x = y from of_decide_eq_true hy]
          exact List.any_eq_false.1 (Bool.not_eq_true _ ▸ quiet)
        rw [none_waits]
      · exact h.one y
  · rcases of_mem_insertDemand hg with ⟨rfl, rfl⟩ | ⟨-, hm⟩
    · exact hf
    · exact h.toDrive y g hm
  · refine (countP_insertDemand (fun _ => rfl) _).trans_le ?_
    split
    · exact h.data
    · exact h.data

theorem sendDemand (h : o.Lawful t) (v : List Word) (x : Axis) (rate : Int) : (o.sendDemand t v x rate).Lawful t := by
  unfold Output.sendDemand
  dsimp only
  split
  · exact h.drop t v _
  · exact (h.insertDemand x rfl).fewer (.startIfIdle t v .d _)

/-- R169, R173: a frame is forwarded into a queue that has a place for it. -/
theorem forward (h : o.Lawful t) (t' : Tables) (v : List Word) (k : Port) (f : Frame) :
    (o.forward t' v k f).Lawful t := by
  cases k <;> simp only [Output.forward]
  case c => exact h.placeFrame t' v _ _ _
  case s =>
    split
    next room =>
      refine fewer (o := { o with sensorQueue := o.sensorQueue ++ [f] }) { h with sensors := ?_ } (.startIfIdle t' v .s _)
      simpa using room
    · exact h.drop t' v _
  case d =>
    split
    next room =>
      refine fewer (o := { o with driveQueue := o.driveQueue ++ [DEntry.data f] }) { h with
        one := fun x => ?_, toDrive := fun x g hg => ?_, data := ?_ } (.startIfIdle t' v .d _)
      · rw [List.countP_append]
        exact h.one x
      · exact h.toDrive x g (by simpa using hg)
      · rw [List.countP_append, List.countP_eq_length_filter]
        exact room
    · exact h.drop t' v _

/-- R152: a frame that is judged anew leaves its queue. -/
theorem judgeWaiting (h : o.Lawful t) (t' : Tables) (v : List Word) (k : Port) (st : PortState) :
    (o.judgeWaiting t' v k st).Lawful t := by
  cases st
  case opened => exact h
  case listen =>
    cases k
    case c =>
      exact (h.fewer (o' := { o with
        urgent := o.urgent.filter fun e => !decide (e.origin ≠ .own)
        routine := o.routine.filter fun e => !decide (e.origin ≠ .own) })
        { urgent := List.filter_sublist, routine := List.filter_sublist }).dropAll t' v _
    case s =>
      exact (h.fewer (o' := { o with sensorQueue := [] }) { sensorQueue := List.nil_sublist _ }).dropAll t' v _
    case d =>
      exact (h.fewer (o' := { o with driveQueue := o.driveQueue.filter (!·.isData) })
        { driveQueue := List.filter_sublist }).dropAll t' v _
  case closed =>
    cases k
    case c =>
      exact (h.fewer (o' := { o with urgent := [], routine := [] })
        { urgent := List.nil_sublist _, routine := List.nil_sublist _ }).dropAll t' v _
    case s =>
      exact (h.fewer (o' := { o with sensorQueue := [] }) { sensorQueue := List.nil_sublist _ }).dropAll t' v _
    case d =>
      exact (h.fewer (o' := { o with driveQueue := [] }) { driveQueue := List.nil_sublist _ }).dropAll t' v _

theorem op (h : o.Lawful t) {v : List Word} (hop : Output.Op t v o o') : o'.Lawful t := by
  cases hop with
  | aside _ _ urgent routine driveQueue sensorQueue =>
    exact h.fewer ⟨urgent ▸ .refl _, routine ▸ .refl _, driveQueue ▸ .refl _, sensorQueue ▸ .refl _⟩
  | drop d => exact h.drop t v d
  | mirror f => exact h.placeFrame t v _ _ _
  | forward k f => exact h.forward t v k f
  | judge k st => exact h.judgeWaiting t v k st
  | complete k => exact h.fewer (.complete t v k o)

/-- After a reset nothing waits. -/
theorem start (t : Tables) (s0 period : Nat) : (Acting.start s0 period).out.Lawful t where
  placesC := Nat.zero_le _
  urgent := nofun
  routine := Nat.zero_le _
  one _ := Nat.zero_le _
  toDrive := nofun
  data := Nat.zero_le _
  sensors := Nat.zero_le _

end Output.Lawful

/-! ### The acting side -/

namespace Acting

variable {c : Ctx} {a : Acting}

theorem sendOne_lawful (h : a.out.Lawful c.tab) (rate : Axis → Option Int) (x : Axis) :
    (a.sendOne c rate x).out.Lawful c.tab := by
  unfold sendOne
  split
  · exact h.sendDemand _ _ _
  · exact h

theorem reportAxes_lawful (h : a.out.Lawful c.tab) (old : PerAxis AxisRun) :
    (a.reportAxes c old).out.Lawful c.tab := by
  unfold reportAxes
  generalize axisList = xs
  suffices all : ∀ b : Acting, b.out.Lawful c.tab → (xs.foldl
      (fun b x => if (a.axes.get x).state = (old.get x).state then b else b.requestStatus c) b).out.Lawful c.tab from
    all a h
  induction xs with
  | nil => exact fun _ hb => hb
  | cons x xs ih =>
    intro b hb
    refine ih _ ?_
    dsimp only
    split
    · exact hb
    · exact hb.requestStatus _ _

theorem shift_lawful (h : a.out.Lawful c.tab) (rate : Axis → Option Int) (f : Axis → AxisRun → AxisRun) :
    (a.shift c rate f).out.Lawful c.tab := by
  unfold shift
  dsimp only
  rw [sendDemands_eq]
  refine reportAxes_lawful (sendOne_lawful (sendOne_lawful (sendOne_lawful ?_ _ _) _ _) _ _) _
  simpa only [setAxes_out] using h

theorem startAxes_lawful (h : a.out.Lawful c.tab) : (a.startAxes c).out.Lawful c.tab := shift_lawful h _ _

theorem pass_lawful {t : Tables} (h : a.out.Lawful t) (d : Nat) : (a.pass d).out.Lawful t := by
  unfold pass
  exact h.fewer {}

/-- Whatever the acting side does keeps the laws of the queues. -/
theorem Reach.queues {b : Acting} (h : a.out.Lawful c.tab) (hr : Reach c a b) : b.out.Lawful c.tab :=
  hr.keeps (P := fun d => d.out.Lawful c.tab) h (fun _ rate f _ hd => shift_lawful hd rate f) (fun _ _ _ _ hd => hd)
    (fun _ _ hd => hd) (fun _ _ hd => hd) (fun _ _ hd => hd) (fun _ _ _ hd => hd.raise _ _ _ _)
    (fun _ hd => hd.requestStatus _ _) (fun _ _ _ _ _ hd => hd.placeFrame _ _ _ _ _)

end Acting

/-! ### Every step -/

/-- The laws of the queues, in the form in which every change keeps them. -/
structure Part.Queued (p : Part) : Prop where
  out : p.act.out.Lawful p.tab
  differ : ∀ x y, x ≠ y → (p.tab.guard.get x).drive ≠ (p.tab.guard.get y).drive

theorem Tables.drivesDiffer_iff {t : Tables} :
    t.drivesDiffer ↔ ∀ x y, x ≠ y → (t.guard.get x).drive ≠ (t.guard.get y).drive := by
  constructor
  · rintro ⟨mp, mt, pt⟩ (_ | _ | _) (_ | _ | _) hxy
    exacts [absurd rfl hxy, mp, mt, mp.symm, absurd rfl hxy, pt, mt.symm, pt.symm, absurd rfl hxy]
  · exact fun h => ⟨h .mast .pan nofun, h .mast .tilt nofun, h .pan .tilt nofun⟩

theorem Part.queueLaw_iff {p : Part} : p.queueLaw ↔ p.Queued := by
  constructor
  · rintro ⟨⟨places, urgent, routine⟩, ⟨mast, pan, tilt, toDrive, data⟩, sensors, differ⟩
    refine ⟨⟨places, List.countP_eq_zero.1 urgent, routine, fun x => by cases x <;> assumption, fun x f hf => ?_, data,
      sensors⟩, Tables.drivesDiffer_iff.1 differ⟩
    exact of_decide_eq_true (List.all_eq_true.1 toDrive _ hf)
  · rintro ⟨⟨places, urgent, routine, one, toDrive, data, sensors⟩, differ⟩
    refine ⟨⟨places, List.countP_eq_zero.2 urgent, routine⟩, ⟨one .mast, one .pan, one .tilt,
      List.all_eq_true.2 fun e he => ?_, data⟩, sensors, Tables.drivesDiffer_iff.2 differ⟩
    cases e with
    | demand x f => exact decide_eq_true (toDrive x f he)
    | data f => rfl

namespace Part.Queued

variable {p : Part}

theorem reach (h : p.Queued) {a : Acting} (hr : Acting.Reach p.ctx p.act a) : Queued { p with act := a } :=
  ⟨hr.queues h.out, h.differ⟩

theorem startAxes (h : p.Queued) : (p.acting Acting.startAxes).Queued :=
  ⟨Acting.startAxes_lawful (c := p.ctx) h.out, h.differ⟩

theorem pass (h : p.Queued) (d : Nat) : (p.pass d).Queued := by
  unfold Part.pass
  exact ⟨Acting.pass_lawful h.out d, h.differ⟩

/-- R62, R63: a new drive node is that of no other axis, and the DEMAND that waits for the old one is withdrawn. -/
theorem guarded (h : p.Queued) {x : Axis} {g : GuardRecord} (clear : ¬driveClashes p.tab x g = true) :
    (p.guarded x g).Queued := by
  have others : ∀ y, y ≠ x → (p.tab.guard.set x g).get y = p.tab.guard.get y := fun y hy =>
    PerAxis.get_set_of_ne _ hy g
  have self : (p.tab.guard.set x g).get x = g := PerAxis.get_set_self _ x g
  have differ : ∀ y z, y ≠ z → ((p.tab.guard.set x g).get y).drive ≠ ((p.tab.guard.set x g).get z).drive := by
    have free : ∀ y, y ≠ x → (p.tab.guard.get y).drive ≠ g.drive := fun y hy he =>
      clear (driveClashes_iff.2 (.inr ⟨y, hy, he⟩))
    intro y z hyz
    by_cases hy : y = x
    · rw [hy, self, others z (hy ▸ hyz.symm)]
      exact (free z (hy ▸ hyz.symm)).symm
    · by_cases hz : z = x
      · rw [hz, self, others y hy]
        exact free y hy
      · rw [others y hy, others z hz]
        exact h.differ y z hyz
  unfold Part.guarded
  dsimp only
  split
  next same =>
    refine ⟨h.out.retable fun y f _ => ?_, differ⟩
    by_cases hy : y = x
    · rw [hy]
      exact (congrArg _ self).trans same
    · exact congrArg _ (others y hy)
  next =>
    refine ⟨(h.out.fewer (o' := p.act.out.withdrawDemand x) { driveQueue := List.filter_sublist }).retable
      fun y f hf => congrArg _ (others y ?_), differ⟩
    rintro rfl
    simpa [DEntry.isDemandOf] using (List.mem_filter.1 hf).2

/-- Every change keeps the laws of the queues. -/
theorem change {reset : Prop} {p q : Part} (hc : p.Change reset q) (h : p.Queued) : q.Queued := by
  induction hc with
  | refl p => exact h
  | trans _ _ ih₁ ih₂ => exact ih₂ (ih₁ h)
  | event hf p => exact h.reach (hf.reach _ _)
  | output p o hop => exact ⟨h.out.op hop, h.differ⟩
  | lineWrites p ws => exact ⟨h.out, h.differ⟩
  | formLines p => exact ⟨(congrArg (Output.Lawful p.tab) (Acting.formLines_out _ _)).mpr h.out, h.differ⟩
  | formPermit p => exact formPermit_keeps (fun _ hp => ⟨hp.out, hp.differ⟩) (fun _ _ hr hp => hp.reach hr) h
  | sense p n mode permit => exact ⟨h.out, h.differ⟩
  | tables p t guard => exact ⟨h.out.retable fun _ _ _ => by rw [guard], fun x y hxy => guard ▸ h.differ x y hxy⟩
  | guard p x g clear => exact h.guarded clear
  | operate p => exact startAxes (p := { p with sen := _ }) ⟨h.out, h.differ⟩
  | pass p d => exact h.pass d
  | warm _ p => exact ⟨.start p.tab _ _, h.differ⟩
  | blank _ straps pins p => exact ⟨.start _ _ _, Tables.drivesDiffer_iff.1 ⟨nofun, nofun, nofun⟩⟩

end Part.Queued

/-- Settles O56: every step is made of changes that keep the laws. -/
theorem stepsKeepQueueLaw : Obligations.StepsKeepQueueLaw := fun _ _ h he =>
  Part.queueLaw_iff.2 ((Part.queueLaw_iff.1 h).change (step_changes he))

end Sys2Proof.Machine
end

section
/-! PROOFS. O60: in UNCONFIGURED the part stays at rest (R71, R92, R178). An axis that is STOPPED with no timer hears
nothing, a search and a sequencer at IDLE end nothing, and every claim is refused with NOT_STARTED; the permit set is
formed empty. Only a reset leaves OPERATING. -/

namespace Sys2Proof.Machine

/-- R92, R178: what UNCONFIGURED leaves of the acting side at rest. -/
structure Acting.AtRest (a : Acting) : Prop where
  axes : ∀ x, (a.axes.get x).atRest
  search : a.search.state = .idle
  seq : a.seq.state = .idle
  pending : a.pointing.pending = none

/-! ### An axis at rest -/

namespace AxisRun

variable {r : AxisRun}

theorem atRest.cutOff (h : r.atRest) : r.cutOff.atRest := by
  obtain ⟨state, owner, goal, jog, vPrev, cause, update, jogTimer, stall, age⟩ := h
  have entered : r.cutOff = { (r.enter .stopped).zeroed with owner := .none, settle := 0 } := by
    unfold AxisRun.cutOff
    rw [if_neg (by rw [state]; decide)]
  rw [entered]
  exact ⟨rfl, rfl, rfl, rfl, rfl, rfl, update, rfl, rfl, age⟩

theorem atRest.zeroed (h : r.atRest) : r.zeroed.atRest := by
  obtain ⟨state, owner, goal, jog, vPrev, cause, update, jogTimer, stall, age⟩ := h
  exact ⟨state, owner, goal, jog, rfl, cause, update, jogTimer, rfl, age⟩

theorem atRest.stoppedBy (h : r.atRest) : r.stoppedBy = r := by
  unfold AxisRun.stoppedBy
  rw [h.1]

theorem atRest.pass (h : r.atRest) (d : Nat) : (r.pass d).atRest := by
  obtain ⟨state, owner, goal, jog, vPrev, cause, update, jogTimer, stall, age⟩ := h
  exact ⟨state, owner, goal, jog, vPrev, cause, congrArg (Timer.pass d) update, congrArg (Timer.pass d) jogTimer,
    congrArg (Timer.pass d) stall, congrArg (DriveAge.pass d) age⟩

end AxisRun

/-! ### What UNCONFIGURED refuses -/

section Refusals

variable {c : Ctx} (off : c.operating = false)
include off

/-- R67: before START every claim is refused. -/
theorem claimCheck_notStarted (o : Owner) (x : Axis) (r : AxisRun) : claimCheck c o x r = some .notStarted := by
  unfold claimCheck
  rw [off]
  rfl

theorem aimChecks_notStarted (n : Node) (r : PresetRecord) (a : Acting) : aimChecks c n r a = some .notStarted := by
  unfold aimChecks
  rw [off]
  rfl

theorem gotoChecks_refuses (n : Node) (goal : Axis → Option Int) (a : Acting) :
    ∃ r, gotoChecks c n goal a = some r := by
  unfold gotoChecks
  rw [off]
  dsimp only
  split <;> exact ⟨_, rfl⟩

theorem searchChecks_notStarted (n : Node) (a : Acting) : searchChecks c n a = some .notStarted := by
  unfold searchChecks
  rw [off]
  rfl

theorem stowClaim_notStarted (a : Acting) : stowClaim c a = some .notStarted := by
  unfold stowClaim claimChecks
  simp only [claimCheck_notStarted off, everyAxis, axisList, List.findSome?, if_true]

theorem stowFrame_notStarted (a : Acting) : a.stowFrame c = (a, .notStarted) := by
  unfold Acting.stowFrame
  rw [off]
  rfl

end Refusals

/-! ### The acting side at rest -/

namespace Acting.AtRest

variable {c : Ctx} {a : Acting}

theorem of_eq {b : Acting} (h : a.AtRest) (e : b = a) : b.AtRest := e ▸ h

theorem ended (h : a.AtRest) : a.search.state.running = false := by
  rw [h.search]
  rfl

theorem axis (h : a.AtRest) (x : Axis) : (a.axes.get x).state = .stopped := (h.axes x).1

theorem emit (h : a.AtRest) (f : Tables → List Word → Output → Output) : (a.emit c f).AtRest :=
  ⟨h.axes, h.search, h.seq, h.pending⟩

theorem shift (h : a.AtRest) (rate : Axis → Option Int) {f : Axis → AxisRun → AxisRun}
    (hf : ∀ x, (f x (a.axes.get x)).atRest) : (a.shift c rate f).AtRest where
  axes x := shift_get c rate f a x ▸ hf x
  search := (congrArg SearchRun.state (shift_search c rate f a)).trans h.search
  seq := (congrArg SequencerRun.state (shift_seq c rate f a)).trans h.seq
  pending := by
    rw [shift_pointing]
    unfold PointingRun.watch
    split
    · exact h.pending
    · rfl

theorem tune (h : a.AtRest) {x : Axis} {f : AxisRun → AxisRun} (hf : (f (a.axes.get x)).atRest) : (a.tune x f).AtRest where
  axes y := by
    unfold Acting.tune
    by_cases hy : y = x
    · rw [hy, PerAxis.get_set_self]
      exact hf
    · rw [PerAxis.get_set_of_ne _ hy]
      exact h.axes y
  search := h.search
  seq := h.seq
  pending := h.pending

/-! #### Ends of what does not run -/

theorem abortSearch (h : a.AtRest) : a.abortSearch c = a := if_neg (Bool.eq_false_iff.1 h.ended)

theorem failSearch (h : a.AtRest) (r : FailureReason) : a.failSearch c r = a := if_neg (Bool.eq_false_iff.1 h.ended)

theorem idle (h : a.AtRest) : ¬a.seq.state.running = true := by
  rw [h.seq]
  decide

theorem abortSequence (h : a.AtRest) : a.abortSequence c = a := if_neg h.idle

theorem timeoutSequence (h : a.AtRest) : a.timeoutSequence c = a := if_neg h.idle

theorem searchLevel (h : a.AtRest) (v : Int) : a.searchLevel c v = a := by
  unfold Acting.searchLevel
  rw [h.search]

theorem forgiven (h : a.AtRest) : a.searching SearchRun.forgiven = a := by
  have kept : a.search.forgiven = a.search := if_neg (by rw [h.search]; decide)
  exact congrArg (fun r => { a with search := r }) kept

/-! #### What an axis at rest does not hear -/

theorem losePosition (h : a.AtRest) (x : Axis) : a.losePosition c x = a := by
  unfold Acting.losePosition
  rw [h.axis x]
  rfl

theorem guardMast (h : a.AtRest) : a.guardMast c = a := by
  obtain ⟨_, _, _, _, still, _⟩ := h.axes .mast
  refine guardMast_of_not fun hm => ?_
  rw [show a.axes.mast.vPrev = 0 from still] at hm
  exact absurd hm.1 (by decide)

theorem updateExpired (h : a.AtRest) (x : Axis) : a.updateExpired c x = a := by
  obtain ⟨_, _, _, _, _, _, update, _⟩ := h.axes x
  exact if_pos (by rw [update]; rfl)

theorem jogExpired (h : a.AtRest) (x : Axis) : a.jogExpired c x = a :=
  if_neg fun hj => by cases (h.axis x).symm.trans hj.1

theorem stallExpired (h : a.AtRest) (x : Axis) : a.stallExpired c x = a := by
  obtain ⟨_, _, _, _, _, _, _, _, stall, _⟩ := h.axes x
  exact if_pos (by rw [stall]; rfl)

theorem driveAgeExpired (h : a.AtRest) (x : Axis) : a.driveAgeExpired c x = a := by
  obtain ⟨_, _, _, _, _, _, _, _, _, age⟩ := h.axes x
  unfold Acting.driveAgeExpired
  rw [age]

theorem suspendExpired (h : a.AtRest) : a.suspendExpired c = a := by
  unfold Acting.suspendExpired
  rw [h.failSearch, ite_self]

theorem phaseExpired (h : a.AtRest) : a.phaseExpired c = a := by
  unfold Acting.phaseExpired
  rw [h.timeoutSequence, ite_self]

/-! #### Changes of records that stay at rest -/

theorem cutOffAll (h : a.AtRest) : (a.cutOffAll c).AtRest := by
  have cut : (a.shift c (immediateZeros c everyAxis) fun _ r => r.cutOff).AtRest := h.shift _ fun x => (h.axes x).cutOff
  unfold Acting.cutOffAll
  rw [cut.abortSearch, cut.abortSequence]
  exact cut

theorem stopNamed (h : a.AtRest) (named : Axis → Bool) : (a.stopNamed c named).AtRest := by
  have stopped : (a.shiftQuiet c fun x r => if named x then r.stoppedBy else r).AtRest := h.shift _ fun x => by
    rw [(h.axes x).stoppedBy, ite_self]
    exact h.axes x
  unfold Acting.stopNamed
  rw [stopped.abortSearch, stopped.abortSequence]
  exact stopped

theorem clearNamed (h : a.AtRest) (named : Axis → Bool) : (a.clearNamed c named).1.AtRest := by
  have none_clears : ∀ x, ¬clears c named a x = true := fun x => by simp [clears, h.axis x]
  have kept : (a.shiftQuiet c fun x r => if clears c named a x then r.cleared else r).AtRest := h.shift _ fun x => by
    rw [if_neg (none_clears x)]
    exact h.axes x
  unfold Acting.clearNamed
  dsimp only
  rw [kept.forgiven]
  exact kept

theorem driveReport (h : a.AtRest) (off : c.operating = false) (x : Axis) (d : DriveState) (w : Word) :
    (a.driveReport c x d w).AtRest := by
  unfold Acting.driveReport
  dsimp only
  rw [off, if_neg Bool.false_ne_true]
  exact h.tune (h.axes x)

theorem newDrive (h : a.AtRest) (off : c.operating = false) (x : Axis) : (a.newDrive c x).AtRest := by
  have tuned := h.tune (x := x) (f := fun r => { r with
    drive := .notReady, driveAge := if c.operating then .running (c.tab.guard.get x).ageTime else r.driveAge }) (by
      rw [off]
      exact h.axes x)
  exact ⟨tuned.axes, tuned.search, tuned.seq, tuned.pending⟩

/-! #### Starts, which are refused -/

theorem performSequence (h : a.AtRest) (off : c.operating = false) (stow lower : Bool) :
    (a.performSequence c stow lower).1.AtRest := by
  unfold Acting.performSequence stowAction lowerAction
  rw [stowClaim_notStarted off, claimCheck_notStarted off]
  split
  · split
    · exact h
    · exact ⟨h.axes, h.search, h.seq, h.pending⟩
  · split
    · exact ⟨h.axes, h.search, h.seq, h.pending⟩
    · exact h

theorem takeAim (h : a.AtRest) (off : c.operating = false) (n : Node) (ws : List Word) : (a.takeAim c n ws).AtRest := by
  unfold Acting.takeAim
  simp only [aimChecks_notStarted off]
  repeat' split
  all_goals exact h.emit _

theorem takeGoto (h : a.AtRest) (off : c.operating = false) (n : Node) (ws : List Word) :
    (a.takeGoto c n ws).AtRest := by
  unfold Acting.takeGoto
  split
  next mast pan tilt =>
    obtain ⟨r, hr⟩ := gotoChecks_refuses off n (gotoGoals mast pan tilt) a
    dsimp only
    rw [hr]
    exact h.emit _
  · exact h.emit _

theorem jog (h : a.AtRest) (off : c.operating = false) (n : Node) (x : Axis) (rate : Int) :
    (a.jog c n x rate).1.AtRest := by
  unfold Acting.jog
  rw [claimCheck_notStarted off]
  split <;> exact h

theorem startSearch (h : a.AtRest) (off : c.operating = false) (n : Node) : (a.startSearch c n).1.AtRest := by
  unfold Acting.startSearch
  rw [h.forgiven]
  dsimp only
  rw [searchChecks_notStarted off]
  exact h

theorem searchEndFrame (h : a.AtRest) : (a.searchEndFrame c).1.AtRest := by
  unfold Acting.searchEndFrame
  rw [h.ended]
  exact h

theorem groupEvent (h : a.AtRest) (rules : List Rule) (d : Performed) (old new : Group) :
    (a.groupEvent c rules d old new).AtRest := by
  unfold Acting.groupEvent
  split
  exacts [h, h.emit _]

/-- R178: whatever the acting side is handed in UNCONFIGURED, it stays at rest. -/
theorem event (h : a.AtRest) (off : c.operating = false) {f : Ctx → Acting → Acting} (hf : Acting.Event f) :
    (f c a).AtRest := by
  cases hf with
  | losePosition x => exact h.of_eq (h.losePosition x)
  | guardMast => exact h.of_eq h.guardMast
  | cutOffAll => exact h.cutOffAll
  | enterCause f => exact h.of_eq (enterCause_ended h.ended c f)
  | searchLevel v => exact h.of_eq (h.searchLevel v)
  | perform rules changes =>
    dsimp only
    rw [perform_unconfigured (Ctx.operating_eq_false.1 off)]
    exact h
  | performSequence stow lower => exact h.performSequence off stow lower
  | groupEvent rules d old new => exact h.groupEvent rules d old new
  | reopenDrives => exact h.shift _ fun x => (h.axes x).zeroed
  | updateExpired x => exact h.of_eq (h.updateExpired x)
  | jogExpired x => exact h.of_eq (h.jogExpired x)
  | stallExpired x => exact h.of_eq (h.stallExpired x)
  | driveAgeExpired x => exact h.of_eq (h.driveAgeExpired x)
  | suspendExpired => exact h.of_eq h.suspendExpired
  | phaseExpired => exact h.of_eq h.phaseExpired
  | driveReport x d w => exact h.driveReport off x d w
  | takeAim n ws => exact h.takeAim off n ws
  | takeGoto n ws => exact h.takeGoto off n ws
  | jog n x rate => exact h.jog off n x rate
  | stopNamed named => exact h.stopNamed named
  | stowFrame => exact h.of_eq (congrArg Prod.fst (stowFrame_notStarted off a))
  | startSearch n => exact h.startSearch off n
  | searchEndFrame => exact h.searchEndFrame
  | clearNamed named => exact h.clearNamed named
  | raise k ws => exact h.emit _
  | requestStatus => exact h.emit _
  | reply n k r ws => exact h.emit _

theorem formLines (h : a.AtRest) : (a.formLines c).AtRest :=
  ⟨fun x => by rw [formLines_axes]; exact h.axes x, by rw [formLines_search]; exact h.search,
   by rw [formLines_seq]; exact h.seq, by rw [formLines_pointing]; exact h.pending⟩

theorem pass (h : a.AtRest) (d : Nat) : (a.pass d).AtRest where
  axes := fun
    | .mast => (h.axes .mast).pass d
    | .pan => (h.axes .pan).pass d
    | .tilt => (h.axes .tilt).pass d
  search := h.search
  seq := h.seq
  pending := h.pending

theorem start (s0 period : Nat) : (Acting.start s0 period).AtRest where
  axes x := by cases x <;> exact ⟨rfl, rfl, rfl, rfl, rfl, rfl, rfl, rfl, rfl, rfl⟩
  search := rfl
  seq := rfl
  pending := rfl

end Acting.AtRest

/-! ### Every step -/

/-- The law of rest, in the form in which every change keeps it. -/
def Part.Resting (p : Part) : Prop := p.sen.mode = .unconfigured → p.act.AtRest ∧ p.sen.permit = 0

theorem Part.restLaw_iff {p : Part} : p.restLaw ↔ p.Resting := by
  refine forall_congr' fun _ => ⟨?_, ?_⟩
  · rintro ⟨mast, pan, tilt, search, seq, pending, permit⟩
    exact ⟨⟨fun x => by cases x <;> assumption, search, seq, pending⟩, permit⟩
  · rintro ⟨⟨axes, search, seq, pending⟩, permit⟩
    exact ⟨axes .mast, axes .pan, axes .tilt, search, seq, pending, permit⟩

theorem Part.formPermit_mode (p : Part) : p.formPermit.sen.mode = p.sen.mode := by rw [formPermit_sen]

namespace Part.Resting

variable {p q : Part}

/-- R55, R178: in UNCONFIGURED the permit set is formed empty again. -/
theorem formPermit (h : p.Resting) : p.formPermit.Resting := by
  intro off
  rw [p.formPermit_mode] at off
  rw [formPermit_unconfigured off (h off).2]
  exact h off

theorem pass (h : p.Resting) (d : Nat) : (p.pass d).Resting := by
  unfold Part.pass
  exact fun off => ⟨(h off).1.pass d, (h off).2⟩

theorem guarded (h : p.Resting) (x : Axis) (g : GuardRecord) : (p.guarded x g).Resting := by
  unfold Part.guarded
  dsimp only
  split
  · exact h
  · exact fun off => ⟨(h off).1.newDrive (Ctx.operating_eq_false.2 off) x, (h off).2⟩

/-- Every change keeps the part at rest in UNCONFIGURED. -/
theorem change {reset : Prop} (hc : p.Change reset q) (h : p.Resting) : q.Resting := by
  induction hc with
  | refl p => exact h
  | trans _ _ ih₁ ih₂ => exact ih₂ (ih₁ h)
  | event hf p => exact fun off => ⟨(h off).1.event (Ctx.operating_eq_false.2 off) hf, (h off).2⟩
  | output p o hop => exact fun off => ⟨(h off).1.emit (c := p.ctx) fun _ _ _ => o, (h off).2⟩
  | lineWrites p ws =>
    exact fun off => ⟨⟨(h off).1.axes, (h off).1.search, (h off).1.seq, (h off).1.pending⟩, (h off).2⟩
  | formLines p => exact fun off => ⟨(h off).1.formLines, (h off).2⟩
  | formPermit p => exact h.formPermit
  | sense p n mode permit => exact fun off => ⟨(h (mode.symm.trans off)).1, permit.trans (h (mode.symm.trans off)).2⟩
  | tables p t guard => exact h
  | guard p x g clear => exact h.guarded x g
  | operate p => exact fun off => nomatch off
  | pass p d => exact h.pass d
  | warm _ p => exact fun _ => ⟨.start _ _, rfl⟩
  | blank _ straps pins p => exact fun _ => ⟨.start _ _, rfl⟩

end Part.Resting

/-- R178: nothing but a reset leaves OPERATING. -/
theorem Part.Change.operating {reset : Prop} {p q : Part} (hc : p.Change reset q) (hr : ¬reset)
    (h : p.sen.mode = .operating) : q.sen.mode = .operating := by
  induction hc with
  | trans _ _ ih₁ ih₂ => exact ih₂ (ih₁ h)
  | formPermit p => exact p.formPermit_mode.trans h
  | sense p n mode permit => exact mode.trans h
  | operate p => rfl
  | guard p x g clear =>
    unfold Part.guarded
    dsimp only
    split <;> exact h
  | pass p d =>
    unfold Part.pass
    exact h
  | warm hw p => exact absurd hw hr
  | blank hw straps pins p => exact absurd hw hr
  | _ => exact h

/-- Settles O60: every step is made of changes that keep the part at rest in UNCONFIGURED, and of which only a reset
leaves OPERATING. -/
theorem stepsKeepUnconfiguredAtRest : Obligations.StepsKeepUnconfiguredAtRest := by
  intro s s' he
  refine ⟨fun h => Part.restLaw_iff.2 ((Part.restLaw_iff.1 h).change (step_changes he)), fun on off => ?_⟩
  by_contra none_resets
  exact nomatch ((step_changes he).operating none_resets on).symm.trans off

end Sys2Proof.Machine
end

section
/-! SUPPORT. The axis records, one equation for each state in which an operation acts (R68 to R70, R81), and the checks of
a claim (R66, R67). -/

namespace Sys2Proof.Machine

/-! ### The changes of one axis record -/

namespace AxisRun

variable {r : AxisRun}

/-- R88: a stall timer goes on between MOVING and JOGGING. -/
theorem enter_stallTimer_runs {st : AxisState} (h : st = .moving ∨ st = .jogging) (r : AxisRun) : (r.enter st).stallTimer =
    if r.state = .moving ∨ r.state = .jogging then r.stallTimer else none := by
  rcases h with rfl | rfl <;> cases hs : r.state <;> simp [enter, hs, AxisState.runs]

theorem claimed_atGoal {m : MotionRecord} {g : Int} (h : r.state = .atGoal ∧ r.goal = some (m.clampGoal g)) (o : Owner) :
    r.claimed m o g = { r with owner := o } := if_pos h

theorem claimed_moving {m : MotionRecord} {g : Int} (h : ¬(r.state = .atGoal ∧ r.goal = some (m.clampGoal g)))
    (o : Owner) : r.claimed m o g = { r with
      state := .moving, goal := some (m.clampGoal g), owner := o, settle := 0, jog := none, jogTimer := none
      stallTimer := if r.state = .moving ∨ r.state = .jogging then r.stallTimer else none
      faultCause := .none } := by
  have kept := enter_stallTimer_runs (.inl rfl) r
  unfold claimed
  rw [← kept]
  exact if_neg h

theorem jogged_eq (m : MotionRecord) (t : PointingRecord) (rate : Int) (r : AxisRun) : r.jogged m t rate = { r with
    state := .jogging, owner := .jog, goal := none, settle := 0
    jog := some (clampTo (-(m.vmax : Int)) m.vmax rate), jogTimer := some t.jogTime
    stallTimer := if r.state = .moving ∨ r.state = .jogging then r.stallTimer else none
    faultCause := .none } := by
  rw [← enter_stallTimer_runs (.inr rfl) r]
  rfl

theorem released_stopping (h : r.state = .moving ∨ r.state = .held) : r.released = { r with
    state := .stopping, owner := .none, goal := none, settle := 0, jog := none, jogTimer := none, stallTimer := none
    faultCause := .none } := by
  unfold released
  rcases h with h | h <;> simp [h, enter, AxisState.holdsGoal, AxisState.runs]

theorem released_kept (hm : r.state ≠ .moving) (hh : r.state ≠ .held) : r.released = { r with owner := .none } := by
  unfold released
  split
  next h => exact absurd h hm
  next h => exact absurd h hh
  · rfl

theorem stoppedBy_stops (h : r.state = .moving ∨ r.state = .atGoal ∨ r.state = .held ∨ r.state = .jogging) :
    r.stoppedBy = { r with
      state := if r.vPrev = 0 then .stopped else .stopping
      owner := .none, goal := none, jog := none, jogTimer := none, settle := 0, stallTimer := none
      faultCause := .none } := by
  unfold stoppedBy
  by_cases h0 : r.vPrev = 0 <;> rcases h with h | h | h | h <;>
    simp [h, h0, enter, AxisState.holdsGoal, AxisState.runs]

theorem stoppedBy_kept (h : r.state = .stopping ∨ r.state = .stopped ∨ r.state = .fault) : r.stoppedBy = r := by
  unfold stoppedBy
  rcases h with h | h | h <;> rw [h]

/-- R66: does a claim pass arbitration? -/
theorem yields_iff {o : Owner} : r.yields o = true ↔ r.owner.rank ≤ o.rank
    ∧ (o = .search → r.owner = .none ∨ r.owner = .search ∨ (r.owner = .aim ∧ r.state = .atGoal)) := by
  unfold yields
  simp only [Bool.and_eq_true, Bool.or_eq_true, decide_eq_true_eq, imp_iff_not_or, or_assoc]

end AxisRun

/-! ### A claim -/

theorem Ctx.posFresh_iff {c : Ctx} {x : Axis} : c.posFresh x = true ↔ (c.sen.image[positionOf x]).state = .fresh :=
  decide_eq_true_iff

/-- R67: the checks of a claim on one axis. -/
theorem claimCheck_eq (c : Ctx) (o : Owner) (x : Axis) (r : AxisRun) : claimCheck c o x r =
    if c.sen.mode = .unconfigured then some .notStarted
    else if c.sen.estop = true then some .estopActive
    else if r.state = .fault then some .axisFault
    else if ¬(r.owner.rank ≤ o.rank
      ∧ (o = .search → r.owner = .none ∨ r.owner = .search ∨ (r.owner = .aim ∧ r.state = .atGoal))) then
      some (if r.owner = .safety then .stowActive else .busyOwner)
    else if r.drive ≠ .ready then some .driveNotReady
    else if (c.sen.image[positionOf x]).state ≠ .fresh then some .noPosition
    else none := by
  unfold claimCheck
  simp only [Bool.not_eq_true', Ctx.operating_eq_false]
  simp only [← Bool.not_eq_true, AxisRun.yields_iff, Ctx.posFresh_iff, ne_eq]

/-- R67: the axes named, in the order mast, pan, tilt. -/
theorem claimChecks_eq (c : Ctx) (o : Owner) (named : Axis → Bool) (a : Acting) :
    let check := fun x => if named x then claimCheck c o x (a.axes.get x) else none
    claimChecks c o named a = ((check .mast).or (check .pan)).or (check .tilt) := by
  intro check
  have folded : claimChecks c o named a = axisList.findSome? check := rfl
  rw [folded]
  cases hm : check .mast <;> cases hp : check .pan <;> cases ht : check .tilt <;>
    simp [axisList, List.findSome?, hm, hp, ht]

namespace Acting

variable (c : Ctx) (o : Owner) (goal : Axis → Option Int) (a : Acting)

theorem claim_none {x : Axis} (h : goal x = none) : (a.claim c o goal).axes.get x = a.axes.get x := by
  unfold claim shiftQuiet
  rw [shift_get, h]

theorem claim_some {x : Axis} {g : Int} (h : goal x = some g) :
    (a.claim c o goal).axes.get x = (a.axes.get x).claimed (c.tab.motion.get x) o g := by
  unfold claim shiftQuiet
  rw [shift_get, h]

theorem claim_search : (a.claim c o goal).search = a.search := by
  unfold claim shiftQuiet
  rw [shift_search]

theorem claim_seq : (a.claim c o goal).seq = a.seq := by
  unfold claim shiftQuiet
  rw [shift_seq]

/-- A change of axis records that sends nothing is the change to the records it leaves. -/
theorem shiftQuiet_eq_shift (f : Axis → AxisRun → AxisRun) :
    a.shiftQuiet c f = a.shift c (fun _ => none) fun x _ => (a.shiftQuiet c f).axes.get x :=
  shift_congr fun x => by
    unfold shiftQuiet
    rw [shift_get]

end Acting

end Sys2Proof.Machine
end

section
/-! PROOFS. O23: the checks of a claim (R66, R67). -/

namespace Sys2Proof.Machine

/-- Settles O23. -/
theorem claimChecksInOrder : Obligations.ClaimChecksInOrder := by
  refine ⟨fun c o x r => ?_, fun c o named a => claimChecks_eq c o named a⟩
  rw [claimCheck_eq]
  rfl

end Sys2Proof.Machine
end

section
/-! PROOFS. O24: a granted goal claim and a release (R68, R69). -/

namespace Sys2Proof.Machine

/-- Settles O24. -/
theorem claimAndReleaseActOnAxes : Obligations.ClaimAndReleaseActOnAxes := by
  refine ⟨fun c o goal a x => ?_, fun c o a x => ?_, fun c o goal a => ?_⟩
  · refine ⟨fun h => a.claim_none c o goal h, fun g hg => ⟨fun h => ?_, fun h => ?_⟩⟩ <;>
      rw [a.claim_some c o goal hg]
    · exact AxisRun.claimed_atGoal h o
    · exact AxisRun.claimed_moving h o
  · dsimp only
    rw [Acting.release_get]
    refine ⟨fun h => if_neg h, fun h => ⟨fun hs => ?_, fun hm hh => ?_⟩⟩ <;> rw [if_pos h]
    · exact AxisRun.released_stopping hs
    · exact AxisRun.released_kept hm hh
  · exact ⟨(Acting.Coasts.claim o goal a).out.driveQueue, a.claim_search c o goal, a.claim_seq c o goal,
      a.shiftQuiet_eq_shift c _, a.shiftQuiet_eq_shift c _⟩

end Sys2Proof.Machine
end

section
/-! SUPPORT. An event that is raised enters the events-seen set, and stays in it through its own placement where no STATUS
is among the urgent frames (R170, R172, R186): the set is cleared by a STATUS that begins, and the next frame of port C
is then an urgent one. -/

namespace Sys2Proof.Machine

/-- No STATUS is among the urgent frames that wait. -/
def Output.UrgentFrames (o : Output) : Prop := ∀ e ∈ o.urgent, ¬e.isStatus = true

namespace Output.UrgentFrames

variable {o o' : Output}

theorem of_countP (h : o.urgent.countP CEntry.isStatus = 0) : o.UrgentFrames := List.countP_eq_zero.1 h

theorem fewer (h : o.UrgentFrames) (s : o.Fewer o') : o'.UrgentFrames := fun e he => h e (s.urgent.subset he)

theorem insertC (h : o.UrgentFrames) {urgent : Bool} {e : CEntry} (he : urgent = true → ¬e.isStatus = true) :
    (o.insertC urgent e).1.UrgentFrames := by
  have joined : urgent = true → ∀ d ∈ o.urgent ++ [e], ¬d.isStatus = true := fun hu d hd =>
    (List.mem_append.1 hd).elim (h d) fun hm => List.mem_singleton.1 hm ▸ he hu
  unfold Output.insertC
  split
  · split
    next hu => exact joined hu
    · exact h
  · split
    next hu =>
      split
      · exact joined hu
      · exact h
    · exact h

theorem placed (h : o.UrgentFrames) (t : Tables) (v : List Word) {urgent : Bool} {e : CEntry}
    (he : urgent = true → ¬e.isStatus = true) : ((o.insertC urgent e).1.startIfIdle t v .c).UrgentFrames :=
  (h.insertC he).fewer (.startIfIdle t v .c _)

theorem placeQuiet (h : o.UrgentFrames) (t : Tables) (v : List Word) {urgent : Bool} {e : CEntry}
    (he : urgent = true → ¬e.isStatus = true) : (o.placeQuiet t v urgent e).UrgentFrames := by
  unfold Output.placeQuiet
  dsimp only
  split
  · exact (h.placed t v he).fewer (.noteDrop _ _)
  · exact h.placed t v he

theorem drop (h : o.UrgentFrames) (t : Tables) (v : List Word) (d : DropRecord) : (o.drop t v d).UrgentFrames := by
  have noted := h.fewer (.noteDrop d o)
  have seen : ((o.noteDrop d).see .dropRecorded).UrgentFrames := noted
  unfold Output.drop
  dsimp only
  split
  · split
    · exact seen.placeQuiet t v fun _ => by simp [CEntry.isStatus]
    · exact seen
  · exact noted

theorem placeC (h : o.UrgentFrames) (t : Tables) (v : List Word) {urgent : Bool} {e : CEntry}
    (he : urgent = true → ¬e.isStatus = true) : (o.placeC t v urgent e).UrgentFrames := by
  unfold Output.placeC
  dsimp only
  split
  · exact (h.placed t v he).drop t v _
  · exact h.placed t v he

theorem raise (h : o.UrgentFrames) (t : Tables) (v : List Word) (k : EventKind) (ws : List Word) :
    (o.raise t v k ws).UrgentFrames := by
  have seen : (o.see k).UrgentFrames := h
  unfold Output.raise
  dsimp only
  split
  · exact seen.placeC t v fun _ => by simp [CEntry.isStatus]
  · exact seen

theorem requestStatus (h : o.UrgentFrames) (t : Tables) (v : List Word) : (o.requestStatus t v).UrgentFrames := by
  unfold Output.requestStatus
  split
  · exact h
  · exact h.placeC t v nofun

theorem sendDemand (h : o.UrgentFrames) (t : Tables) (v : List Word) (x : Axis) (rate : Int) :
    (o.sendDemand t v x rate).UrgentFrames := by
  unfold Output.sendDemand
  dsimp only
  split
  · exact h.drop t v _
  · exact fewer (o := { o with driveQueue := insertDemand x (demandFrame t x rate) o.driveQueue }) h (.startIfIdle t v .d _)

end Output.UrgentFrames

namespace Acting

variable {c : Ctx} {a b : Acting}

theorem sendOne_urgentFrames (h : a.out.UrgentFrames) (rate : Axis → Option Int) (x : Axis) :
    (a.sendOne c rate x).out.UrgentFrames := by
  unfold sendOne
  split
  · exact h.sendDemand _ _ _ _
  · exact h

theorem reportAxes_urgentFrames (h : a.out.UrgentFrames) (old : PerAxis AxisRun) :
    (a.reportAxes c old).out.UrgentFrames := by
  unfold reportAxes
  generalize axisList = xs
  suffices all : ∀ b : Acting, b.out.UrgentFrames → (xs.foldl
      (fun b x => if (a.axes.get x).state = (old.get x).state then b else b.requestStatus c) b).out.UrgentFrames from
    all a h
  induction xs with
  | nil => exact fun _ hb => hb
  | cons x xs ih =>
    intro b hb
    refine ih _ ?_
    dsimp only
    split
    · exact hb
    · exact hb.requestStatus _ _

theorem shift_urgentFrames (h : a.out.UrgentFrames) (rate : Axis → Option Int) (f : Axis → AxisRun → AxisRun) :
    (a.shift c rate f).out.UrgentFrames := by
  unfold shift
  dsimp only
  rw [sendDemands_eq]
  refine reportAxes_urgentFrames (sendOne_urgentFrames (sendOne_urgentFrames (sendOne_urgentFrames ?_ _ _) _ _) _ _) _
  simpa only [setAxes_out] using h

theorem release_urgentFrames (h : a.out.UrgentFrames) (o : Owner) : (a.release c o).out.UrgentFrames := by
  unfold release shiftQuiet
  exact shift_urgentFrames h _ _

/-- What the acting side does places no STATUS among the urgent frames. -/
theorem Reach.urgentFrames (h : a.out.UrgentFrames) (hr : Reach c a b) : b.out.UrgentFrames :=
  hr.keeps (P := fun d => d.out.UrgentFrames) h (fun _ rate f _ hd => shift_urgentFrames hd rate f)
    (fun _ _ _ _ hd => hd) (fun _ _ hd => hd) (fun _ _ hd => hd) (fun _ _ hd => hd)
    (fun _ _ _ hd => hd.raise _ _ _ _) (fun _ hd => hd.requestStatus _ _)
    (fun _ _ _ _ _ hd => hd.placeC _ _ fun _ => by simp [CEntry.isStatus])

end Acting

/-! ### The events-seen set -/

namespace Output

variable {o : Output} {k : EventKind}

/-- R186: the kind is among the events seen. -/
def Seen (k : EventKind) (o : Output) : Prop := o.seen &&& eventBit k ≠ 0

theorem seen_see (k : EventKind) (o : Output) : (o.see k).Seen k := by
  have kept : (o.seen ||| eventBit k) &&& eventBit k = eventBit k := by
    ext i
    simpa using Or.inr
  unfold Seen see
  rw [kept]
  cases k <;> decide

theorem Seen.see (h : o.Seen k) (j : EventKind) : (o.see j).Seen k := by
  have spread : (o.seen ||| eventBit j) &&& eventBit k = (o.seen &&& eventBit k) ||| (eventBit j &&& eventBit k) := by
    ext i
    simp [Bool.and_or_distrib_right]
  unfold Seen Output.see
  rw [spread]
  exact fun h0 => h (BitVec.or_eq_zero_iff.1 h0).1

theorem noteDrop_seen (d : DropRecord) (o : Output) : (o.noteDrop d).seen = o.seen := by
  unfold noteDrop
  dsimp only
  repeat' split
  all_goals rfl

theorem insertC_seen (urgent : Bool) (e : CEntry) (o : Output) : (o.insertC urgent e).1.seen = o.seen := by
  unfold insertC
  repeat' split
  all_goals rfl

theorem transmitC_seen {e : CEntry} (he : ¬e.isStatus = true) (t : Tables) (v : List Word) (o : Output) :
    (o.transmitC t v e).seen = o.seen := by
  unfold transmitC
  split
  · rfl
  next h => exact absurd (decide_eq_true h) he

/-- R170: with an urgent frame waiting, or no frame, what port C takes next is no STATUS. -/
theorem startIfIdle_seen (h : o.UrgentFrames) (hu : o.urgent = [] → o.routine = []) (t : Tables) (v : List Word) :
    (o.startIfIdle t v .c).seen = o.seen := by
  unfold startIfIdle
  split
  · simp only [takeNext]
    split
    next e rest hq =>
      exact transmitC_seen (h e (hq ▸ List.mem_cons_self)) t v _
    next e rest none_urgent hq => exact nomatch (hu none_urgent).symm.trans hq
    · rfl
  · rfl

/-- After an urgent placement a routine frame is not the next one. -/
theorem insertC_urgent_first (e : CEntry) (o : Output) :
    (o.insertC true e).1.urgent = [] → (o.insertC true e).1.routine = [] := by
  unfold insertC
  split
  · exact fun h => absurd h (by simp)
  · rw [if_pos rfl]
    split
    · exact fun h => absurd h (by simp)
    next hr => exact fun _ => List.getLast?_eq_none_iff.1 hr

/-- R172: the placement of an urgent frame begins no STATUS. -/
theorem placed_seen (h : o.UrgentFrames) {e : CEntry} (he : ¬e.isStatus = true) (t : Tables) (v : List Word) :
    ((o.insertC true e).1.startIfIdle t v .c).seen = o.seen :=
  (startIfIdle_seen (h.insertC fun _ => he) (insertC_urgent_first e o) t v).trans (insertC_seen true e o)

theorem placeQuiet_seen (h : o.UrgentFrames) {e : CEntry} (he : ¬e.isStatus = true) (t : Tables) (v : List Word) :
    (o.placeQuiet t v true e).seen = o.seen := by
  unfold placeQuiet
  dsimp only
  split
  · exact (noteDrop_seen _ _).trans (placed_seen h he t v)
  · exact placed_seen h he t v

theorem Seen.drop (h : o.UrgentFrames) (hs : o.Seen k) (t : Tables) (v : List Word) (d : DropRecord) :
    (o.drop t v d).Seen k := by
  have noted : (o.noteDrop d).Seen k := by
    unfold Seen
    rw [noteDrop_seen]
    exact hs
  have frames : ((o.noteDrop d).see .dropRecorded).UrgentFrames := UrgentFrames.fewer (o' := o.noteDrop d) h (.noteDrop d o)
  unfold Output.drop
  dsimp only
  split
  · split
    · unfold Seen
      rw [placeQuiet_seen frames (by simp [CEntry.isStatus])]
      exact noted.see _
    · exact noted.see _
  · exact noted

/-- R186: an event that is raised is among the events seen. -/
theorem raise_seen (h : o.UrgentFrames) (t : Tables) (v : List Word) (k : EventKind) (ws : List Word) :
    (o.raise t v k ws).Seen k := by
  have frame : ¬CEntry.isStatus ⟨.own, .frame (eventFrame t k ws)⟩ = true := by simp [CEntry.isStatus]
  have frames : (o.see k).UrgentFrames := h
  have placed : (((o.see k).insertC true ⟨.own, .frame (eventFrame t k ws)⟩).1.startIfIdle t v .c).Seen k := by
    unfold Seen
    rw [placed_seen frames frame]
    exact seen_see k o
  unfold raise Output.placeC
  dsimp only
  split
  · split
    · exact placed.drop (frames.placed t v fun _ => frame) t v _
    · exact placed
  · exact seen_see k o

end Output

theorem Acting.raise_seen {c : Ctx} {a : Acting} (h : a.out.UrgentFrames) (k : EventKind) (ws : List Word) :
    (a.raise c k ws).out.Seen k := Output.raise_seen h _ _ k ws

end Sys2Proof.Machine
end

section
/-! SUPPORT. What an end of the search leaves (R123 to R125). -/

namespace Sys2Proof.Machine

namespace SearchState

theorem running_iff {st : SearchState} : st.running = true ↔ st = .probing ∨ st = .peaked ∨ st = .suspended := by
  cases st <;> simp [running]

end SearchState

namespace Acting

variable (c : Ctx) (st : SearchState) (reason : FailureReason) (outcome : Ending) (a : Acting)

theorem endSearch_search : (a.endSearch c st reason outcome).search = a.search.ended st reason := by
  unfold endSearch
  simp only [searchEvent_search, release_search, searching_search]

theorem endSearch_seq : (a.endSearch c st reason outcome).seq = a.seq := by
  unfold endSearch
  simp only [searchEvent_seq, release_seq, searching_seq]

theorem endSearch_get (x : Axis) : (a.endSearch c st reason outcome).axes.get x =
    if (a.axes.get x).owner = .search then (a.axes.get x).released else a.axes.get x :=
  release_get c .search (a.searching (·.ended st reason)) x

theorem endSearch_driveQueue : (a.endSearch c st reason outcome).out.driveQueue = a.out.driveQueue :=
  (Coasts.endSearch st reason outcome a).out.driveQueue

/-- R125, R186: SEARCH_END is among the events seen. -/
theorem endSearch_seen (h : a.out.UrgentFrames) : (a.endSearch c st reason outcome).out.Seen .searchEnd := by
  exact raise_seen (release_urgentFrames (a := a.searching (·.ended st reason)) h .search) .searchEnd _

/-- R125: an end of the search, as a whole. -/
theorem endSearch_searchOver : SearchOver st reason a (a.endSearch c st reason outcome) := by
  refine ⟨a.endSearch_search c st reason outcome, fun x => ?_, fun h => ?_, a.endSearch_seq c st reason outcome,
    a.endSearch_driveQueue c st reason outcome⟩
  · exact a.endSearch_get c st reason outcome x
  · exact a.endSearch_seen c st reason outcome (Output.UrgentFrames.of_countP h)

variable {a}

theorem abortSearch_running (h : a.search.state.running = true) : a.abortSearch c = a.endSearch c .idle .none .aborted :=
  if_pos h

theorem abortSearch_not_running (h : ¬a.search.state.running = true) : a.abortSearch c = a := if_neg h

theorem failSearch_running (h : a.search.state.running = true) :
    a.failSearch c reason = a.endSearch c .failed reason .failed := if_pos h

theorem failSearch_not_running (h : ¬a.search.state.running = true) : a.failSearch c reason = a := if_neg h

variable (a)

/-- R123: an abort releases the axes of a search that runs. -/
theorem abortSearch_axis (x : Axis) : (a.abortSearch c).axes.get x =
    if a.search.state.running = true ∧ (a.axes.get x).owner = .search then (a.axes.get x).released
    else a.axes.get x := by
  by_cases h : a.search.state.running = true
  · rw [abortSearch_running c h, endSearch_get]
    simp only [h, true_and]
  · rw [abortSearch_not_running c h, if_neg fun hr => h hr.1]

theorem abortSearch_coasts : a.Coasts (a.abortSearch c) := .ite (.endSearch _ _ _ a)

theorem abortSearch_search : (a.abortSearch c).search =
    if a.search.state.running = true then a.search.ended .idle .none else a.search := by
  unfold abortSearch
  split
  · exact a.endSearch_search c _ _ _
  · rfl

end Acting

end Sys2Proof.Machine
end

section
/-! SUPPORT. A claim of an operator, with the search that it takes pan or tilt from aborted (R68, R81). -/

namespace Sys2Proof.Machine

namespace Acting

section Taken

variable (took : Prop) [Decidable took] (c : Ctx) (d : Acting)

/-- R123: a search that has lost an axis releases the others. -/
theorem abortIf_get (y : Axis) : (if took then d.abortSearch c else d).axes.get y =
    if (d.search.state.running = true ∧ took) ∧ (d.axes.get y).owner = .search then (d.axes.get y).released
    else d.axes.get y := by
  by_cases h : took
  · rw [if_pos h, abortSearch_axis]
    simp only [h, and_true]
  · rw [if_neg h, if_neg fun ht => h ht.1.2]

theorem abortIf_idle (h : d.search.state.running = true ∧ took) :
    (if took then d.abortSearch c else d).search.state = .idle := by
  rw [if_pos h.2, abortSearch_running c h.1, endSearch_search]
  rfl

theorem abortIf_search (h : ¬(d.search.state.running = true ∧ took)) :
    (if took then d.abortSearch c else d).search = d.search := by
  split
  next ht => rw [abortSearch_not_running c fun hr => h ⟨hr, ht⟩]
  · rfl

theorem abortIf_seq : (if took then d.abortSearch c else d).seq = d.seq := by
  split
  · exact abortSearch_seq c d
  · rfl

theorem abortIf_driveQueue : (if took then d.abortSearch c else d).out.driveQueue = d.out.driveQueue := by
  split
  · exact (d.abortSearch_coasts c).out.driveQueue
  · rfl

end Taken

/-! ### A jog (R81) -/

theorem takesDish_one_iff {a : Acting} {x : Axis} : takesDish a (fun y => decide (y = x)) = true ↔
    x ≠ .mast ∧ (a.axes.get x).owner = .search := by
  cases x <;> simp [takesDish]

/-- A change of one axis that sends nothing. -/
theorem shiftOne_get (c : Ctx) (x y : Axis) (f : AxisRun → AxisRun) (a : Acting) :
    (a.shiftOne c x f).axes.get y = if y = x then f (a.axes.get y) else a.axes.get y := by
  unfold shiftOne shiftQuiet
  rw [shift_get]

theorem shiftOne_search (c : Ctx) (x : Axis) (f : AxisRun → AxisRun) (a : Acting) :
    (a.shiftOne c x f).search = a.search := by
  unfold shiftOne shiftQuiet
  rw [shift_search]

theorem shiftOne_seq (c : Ctx) (x : Axis) (f : AxisRun → AxisRun) (a : Acting) :
    (a.shiftOne c x f).seq = a.seq := by
  unfold shiftOne shiftQuiet
  rw [shift_seq]

theorem shiftOne_driveQueue (c : Ctx) (x : Axis) {f : AxisRun → AxisRun} (hf : ∀ r, (f r).vPrev = r.vPrev) (a : Acting) :
    (a.shiftOne c x f).out.driveQueue = a.out.driveQueue :=
  (Coasts.shiftQuiet (fun y r => if y = x then f r else r) (fun y r => by split <;> simp [hf]) a).out.driveQueue

/-- R81, R88: the jog as a change of the one axis record. -/
theorem shiftOne_jogged (c : Ctx) (x : Axis) (rate : Int) (a : Acting) :
    a.shiftOne c x (AxisRun.jogged (c.tab.motion.get x) c.tab.pointing rate) =
      a.shift c (fun _ => none) fun y old => if y = x then { old with
        state := .jogging, owner := .jog, goal := none, settle := 0
        jog := some (max (-((c.tab.motion.get x).vmax : Int)) (min (c.tab.motion.get x).vmax rate))
        jogTimer := some (c.tab.pointing.jogTimeout * 10000)
        stallTimer := if old.state = .moving ∨ old.state = .jogging then old.stallTimer else none
        faultCause := .none } else old := by
  unfold shiftOne shiftQuiet
  refine shift_congr fun y => ?_
  simp only [AxisRun.jogged_eq, clampTo, PointingRecord.jogTime]

/-- R81: a granted jog, as a whole. -/
theorem claimJog_jogged (c : Ctx) (x : Axis) (rate : Int) (a : Acting) : Jogged c x rate a (a.claimJog c x rate) := by
  set d : Acting := a.shiftOne c x (AxisRun.jogged (c.tab.motion.get x) c.tab.pointing rate) with hd
  have self : d.axes.get x = (a.axes.get x).jogged (c.tab.motion.get x) c.tab.pointing rate := by
    rw [hd, shiftOne_get, if_pos rfl]
  have other : ∀ y, y ≠ x → d.axes.get y = a.axes.get y := fun y hy => by rw [hd, shiftOne_get, if_neg hy]
  have search : d.search = a.search := shiftOne_search c x _ a
  have queue : d.out.driveQueue = a.out.driveQueue :=
    shiftOne_driveQueue c x (fun r => r.jogged_eq _ _ _ ▸ rfl) a
  have claim : a.claimJog c x rate =
      if x ≠ .mast ∧ (a.axes.get x).owner = .search then d.abortSearch c else d := by
    unfold claimJog
    simp only [takesDish_one_iff, ← hd]
  rw [claim]
  refine ⟨?_, ?_, fun y hy => ?_, fun h => ?_, fun h => ?_, ?_, ?_⟩
  · rw [← shiftOne_jogged]
  · rw [abortIf_get, self, AxisRun.jogged_eq, if_neg fun h => nomatch h.2]
    exact ⟨rfl, rfl, rfl, rfl, rfl, rfl, rfl, rfl⟩
  · rw [abortIf_get, other y hy, search]
  · exact abortIf_idle _ c d (search ▸ h)
  · exact (abortIf_search _ c d (search ▸ h)).trans search
  · exact (abortIf_seq _ c d).trans (shiftOne_seq c x _ a)
  · exact (abortIf_driveQueue _ c d).trans queue

variable {c : Ctx} {n : Node} {x : Axis} {a : Acting}

theorem jog_noRights (h : c.tab.mayMove n x = false) (rate : Int) : a.jog c n x rate = (a, .noRights) := by
  unfold jog
  rw [h]
  rfl

theorem jog_refused (h : c.tab.mayMove n x = true) {r : Result} (hr : claimCheck c .jog x (a.axes.get x) = some r)
    (rate : Int) : a.jog c n x rate = (a, r) := by
  unfold jog
  rw [h, hr]
  rfl

theorem jog_granted (h : c.tab.mayMove n x = true) (hr : claimCheck c .jog x (a.axes.get x) = none) (rate : Int) :
    a.jog c n x rate = (a.claimJog c x rate, .done) := by
  unfold jog
  rw [h, hr]
  rfl

end Acting

end Sys2Proof.Machine
end

section
/-! PROOFS. O25: JOG, and the DEMAND of a console (R81, R83). -/

namespace Sys2Proof.Machine

/-- R162: a DEMAND for a drive node that the part admits is taken as a jog. -/
theorem State.exec_consoleDemand {s : State} {h : Header} {ws : List Word} {e : NodeEntry} (live : s.part.sen.held = false)
    (admitted : s.part.admits h.port (frameOf h .demand ws)) (far : s.part.tab.bound h.port h.dst = .far e)
    (drive : e.role = .drive) (jogs : (s.part.tab.node h.src).role.jogs = true) :
    exec (.consoleDemand h ws) s = .next (s.settled ((s.entered h).takeDemand (frameOf h .demand ws))) := by
  have allowed : kindAllowed (s.part.tab.node h.src) .demand (s.part.tab.bound h.port h.dst) = true := by
    rw [far]
    simp [kindAllowed, jogs, drive]
  have routed : (s.entered h).route h.port (frameOf h .demand ws) = (s.entered h).takeDemand (frameOf h .demand ws) := by
    have bound : (s.entered h).tab.bound h.port (frameOf h .demand ws).dst = .far e := far
    unfold Part.route
    rw [bound]
    rfl
  have run : exec (.consoleDemand h ws) s = s.run fun p => p.arrive h.port (frameOf h .demand ws) := rfl
  rw [run, State.run_live live, Part.arrive_admitted admitted allowed]
  exact congrArg (fun p => Host.Outcome.next (s.settled p)) routed

/-- A command of the acting side with its result. -/
theorem Part.doing_eq {f : Ctx → Acting → Acting × Result} {p : Part} {a : Acting} {r : Result}
    (h : f p.ctx p.act = (a, r)) : p.doing f = ({ p with act := a }, r) := by
  unfold Part.doing
  rw [h]

section Jog

variable {s : State} {h : Header} {x : Axis} (rate : Int)

/-- R81: the jog that a frame asks for, with the checks as the arrival found them. -/
def State.jogged (s : State) (h : Header) (x : Axis) (rate : Int) : Part × Result :=
  (s.entered h).doing fun c a => a.jog c h.src x rate

theorem State.jogged_noRights (hr : s.part.tab.mayMove h.src x = false) :
    s.jogged h x rate = (s.entered h, .noRights) :=
  Part.doing_eq (Acting.jog_noRights (c := (s.entered h).ctx) hr rate)

theorem State.jogged_refused (hm : s.part.tab.mayMove h.src x = true) {r : Result}
    (hr : claimCheck s.part.ctx .jog x (s.part.act.axes.get x) = some r) : s.jogged h x rate = (s.entered h, r) :=
  Part.doing_eq (Acting.jog_refused (c := (s.entered h).ctx) (a := (s.entered h).act) hm hr rate)

theorem State.jogged_granted (hm : s.part.tab.mayMove h.src x = true)
    (hr : claimCheck s.part.ctx .jog x (s.part.act.axes.get x) = none) : s.jogged h x rate =
      ({ s.entered h with act := (s.entered h).act.claimJog (s.entered h).ctx x rate }, .done) :=
  Part.doing_eq (Acting.jog_granted (c := (s.entered h).ctx) (a := (s.entered h).act) hm hr rate)

end Jog

/-- Settles O25. -/
theorem jogAndConsoleDemandTaken : Obligations.JogAndConsoleDemandTaken := by
  refine ⟨fun s h w rate hc => ?_, fun s h rate e live admitted far drive jogs => ?_⟩
  · have answered : ∀ {q : Part} {r : Result}, (s.entered h).jogFrame h.src [w, rate] = (q, r) →
        exec (.jog h [w, rate]) s = .next (s.answered h .jog r q) := fun hq =>
      exec_answered rfl hc nofun nofun (congrArg (answer (frameOf h .jog [w, rate])) hq)
    refine ⟨fun hw => answered ?_, fun x hx => ?_⟩
    · unfold Part.jogFrame
      dsimp only
      rw [hw]
    · have taken : (s.entered h).jogFrame h.src [w, rate] = s.jogged h x rate.toInt := by
        unfold Part.jogFrame
        dsimp only
        rw [hx]
        rfl
      exact ⟨fun hr => answered (taken.trans (State.jogged_noRights _ hr)),
        fun r hm hr => answered (taken.trans (State.jogged_refused _ hm hr)),
        fun hm hr => ⟨_, answered (taken.trans (State.jogged_granted _ hm hr)), Acting.claimJog_jogged _ _ _ _⟩⟩
  · have answered : ∀ {q : Part} {r : Result},
        (s.entered h).takeDemand (frameOf h .demand [rate]) = answer (frameOf h .demand [rate]) (q, r) →
        exec (.consoleDemand h [rate]) s = .next (s.answered h .demand r q) := fun hq => by
      rw [State.exec_consoleDemand live admitted far drive jogs, hq]
      rfl
    refine ⟨fun hw => answered ?_, fun x hx => ?_⟩
    · have nobody : (s.entered h).tab.axisOfDrive (frameOf h .demand [rate]).dst = none := hw
      unfold Part.takeDemand
      rw [nobody]
      rfl
    · have taken : (s.entered h).takeDemand (frameOf h .demand [rate]) =
          answer (frameOf h .demand [rate]) (s.jogged h x rate.toInt) := by
        have served : (s.entered h).tab.axisOfDrive (frameOf h .demand [rate]).dst = some x := hx
        unfold Part.takeDemand
        rw [served]
        rfl
      exact ⟨fun hr => answered (taken.trans (congrArg _ (State.jogged_noRights _ hr))),
        fun r hm hr => answered (taken.trans (congrArg _ (State.jogged_refused _ hm hr))),
        fun hm hr => ⟨_, answered (taken.trans (congrArg _ (State.jogged_granted _ hm hr))),
          Acting.claimJog_jogged _ _ _ _⟩⟩

end Sys2Proof.Machine
end

section
/-! SUPPORT. What the end of a sequence leaves that releases its axes, where no search runs (R135, R137). -/

namespace Sys2Proof.Machine

theorem AxisRun.released_owner (r : AxisRun) : r.released.owner = .none := by
  unfold AxisRun.released
  split <;> rfl

namespace Acting

variable {c : Ctx} {a : Acting}

/-- R96, R103: a change of axes may drop the search-after that pends, and nothing else of pointing. -/
structure SameAim (a b : Acting) : Prop where
  lastPreset : b.pointing.lastPreset = a.pointing.lastPreset
  snapshot : b.pointing.snapshot = a.pointing.snapshot

namespace SameAim

variable {b d : Acting}

theorem refl (a : Acting) : a.SameAim a := ⟨rfl, rfl⟩

theorem trans (h₁ : a.SameAim b) (h₂ : b.SameAim d) : a.SameAim d :=
  ⟨h₂.lastPreset.trans h₁.lastPreset, h₂.snapshot.trans h₁.snapshot⟩

theorem of_pointing (h : b.pointing = a.pointing) : a.SameAim b := ⟨by rw [h], by rw [h]⟩

theorem shift (c : Ctx) (rate : Axis → Option Int) (f : Axis → AxisRun → AxisRun) (a : Acting) :
    a.SameAim (a.shift c rate f) := by
  constructor <;> rw [shift_pointing] <;> unfold PointingRun.watch <;> split <;> rfl

theorem release (c : Ctx) (o : Owner) (a : Acting) : a.SameAim (a.release c o) := by
  unfold Acting.release shiftQuiet
  exact shift c _ _ a

theorem endSearch (st : SearchState) (r : FailureReason) (e : Ending) (a : Acting) :
    a.SameAim (a.endSearch c st r e) := by
  have released : a.SameAim ((a.searching (·.ended st r)).release c .search) :=
    trans (b := a.searching (·.ended st r)) (of_pointing rfl) (release c .search _)
  unfold Acting.endSearch
  exact released.trans (of_pointing (searchEvent_pointing _ _ _ _ _))

theorem abortSearch (a : Acting) : a.SameAim (a.abortSearch c) := by
  unfold Acting.abortSearch
  split
  exacts [endSearch _ _ _ a, refl a]

end SameAim

/-- R135: an abort releases the axes of a sequence that runs. -/
theorem abortSequence_axis (h : a.search.state.running = false) (c : Ctx) (x : Axis) :
    (a.abortSequence c).axes.get x =
      if a.seq.state ≠ .idle ∧ (a.axes.get x).owner = .safety then (a.axes.get x).released else a.axes.get x := by
  unfold abortSequence
  split
  next hr =>
    have busy : a.seq.state ≠ .idle := SequenceState.running_iff.1 hr
    rw [endSequence_ended h]
    simp only [sequenceEvent_axes, busy, ne_eq, not_false_eq_true, true_and]
    exact release_get c .safety { a with seq := { a.seq with state := .idle, timer := none } } x
  next hr => exact (if_neg fun hb => hr (SequenceState.running_iff.2 hb.1)).symm

theorem abortSequence_sameAim (h : a.search.state.running = false) (c : Ctx) : a.SameAim (a.abortSequence c) := by
  unfold abortSequence
  split
  · rw [endSequence_ended h]
    have freed : a.SameAim (a.seqFreed c) :=
      .trans (b := { a with seq := { a.seq with state := .idle, timer := none } }) (.of_pointing rfl) (.release c _ _)
    exact freed.trans (.of_pointing (sequenceEvent_pointing _ _ _ _ _ _))
  · exact .refl a

end Acting

end Sys2Proof.Machine
end

section
/-! PROOFS. O26: STOP (R70, R135). -/

namespace Sys2Proof.Machine

namespace Acting

/-- R70: the axes named are stopped. -/
def stoppedAxes (c : Ctx) (named : Axis → Bool) (a : Acting) : Acting :=
  a.shift c (fun _ => none) fun x r => if named x then r.stoppedBy else r

variable (c : Ctx) (named : Axis → Bool) (a : Acting)

theorem stopNamed_eq : a.stopNamed c named = ((a.stoppedAxes c named).abortSearch c).abortSequence c := rfl

theorem stoppedAxes_get (x : Axis) : (a.stoppedAxes c named).axes.get x =
    if named x then (a.axes.get x).stoppedBy else a.axes.get x := shift_get c _ _ a x

theorem stoppedAxes_search : (a.stoppedAxes c named).search = a.search := shift_search c _ _ a

theorem stoppedAxes_seq : (a.stoppedAxes c named).seq = a.seq := shift_seq c _ _ a

/-- R123, R135: an aborted search and an aborted sequence release what they own. -/
theorem abortBoth_get (x : Axis) : ((a.abortSearch c).abortSequence c).axes.get x =
    if ((a.axes.get x).owner = .search ∧ a.search.state.running = true)
        ∨ ((a.axes.get x).owner = .safety ∧ a.seq.state ≠ .idle)
    then (a.axes.get x).released else a.axes.get x := by
  rw [abortSequence_axis (abortSearch_ended c _), abortSearch_seq, abortSearch_axis]
  by_cases hs : a.search.state.running = true ∧ (a.axes.get x).owner = .search
  · have freed : (a.axes.get x).released.owner ≠ .safety := by
      rw [AxisRun.released_owner]
      decide
    rw [if_pos hs, if_neg fun h => freed h.2, if_pos (Or.inl hs.symm)]
  · rw [if_neg hs]
    refine if_congr ⟨fun h => .inr h.symm, fun h => ?_⟩ rfl rfl
    exact h.elim (fun hr => absurd hr.symm hs) And.symm

/-- R70, R123, R135: after the axes named, the search and the sequence release what they own. -/
theorem stopNamed_get (x : Axis) :
    let stopped := if named x then (a.axes.get x).stoppedBy else a.axes.get x
    (a.stopNamed c named).axes.get x =
      if (stopped.owner = .search ∧ a.search.state.running = true) ∨ (stopped.owner = .safety ∧ a.seq.state ≠ .idle)
      then stopped.released else stopped := by
  have both := abortBoth_get c (a.stoppedAxes c named) x
  rw [stoppedAxes_get, stoppedAxes_search, stoppedAxes_seq] at both
  exact both

theorem stopNamed_coasts : a.Coasts (a.stopNamed c named) := by
  have stopped : a.Coasts (a.stoppedAxes c named) := Coasts.shiftQuiet _ (fun x r => by
    split
    · exact r.stoppedBy_vPrev
    · rfl) a
  rw [stopNamed_eq]
  exact (stopped.trans (abortSearch_coasts c _)).trans (.ite (.endSequence _ _ _ _))

theorem stopNamed_sameAim : a.SameAim (a.stopNamed c named) := by
  rw [stopNamed_eq]
  exact (SameAim.trans (.shift c _ _ a) (.abortSearch _)).trans (abortSequence_sameAim (abortSearch_ended c _) c)

end Acting

/-- R70, R90: a frame that names axes is answered with the result of its command. -/
theorem Part.naming_eq {f : (Axis → Bool) → Ctx → Acting → Acting × Result} {p : Part} {w : Word} {named : Axis → Bool}
    (h : namedAxes w = some named) : p.naming [w] f = p.doing (f named) := by
  unfold Part.naming
  dsimp only
  rw [h]

theorem Part.naming_none {f : (Axis → Bool) → Ctx → Acting → Acting × Result} {p : Part} {w : Word}
    (h : namedAxes w = none) : p.naming [w] f = (p, .badValue) := by
  unfold Part.naming
  dsimp only
  rw [h]

/-- Settles O26. -/
theorem stopStopsNamedAxes : Obligations.StopStopsNamedAxes := by
  refine ⟨fun r => ⟨AxisRun.stoppedBy_stops, AxisRun.stoppedBy_kept⟩, fun s h w hc hw => ?_, fun s h w named hc hn => ?_⟩
  · exact exec_answered rfl hc nofun nofun
      (congrArg (answer (frameOf h .stop [w])) (Part.naming_none (namedAxes_outside hw)))
  · intro e stopped
    obtain ⟨search, seq, -⟩ := Acting.abortSequence_ended (Acting.abortSearch_ended e.ctx stopped) e.ctx
    refine ⟨e.act.stopNamed e.ctx named, exec_answered rfl hc nofun nofun
        (congrArg (answer (frameOf h .stop [w])) (Part.naming_eq (p := e) hn)), rfl, e.act.stopNamed_get e.ctx named,
      ?_, seq, (e.act.stopNamed_coasts e.ctx named).out.driveQueue, (e.act.stopNamed_sameAim e.ctx named).lastPreset,
      (e.act.stopNamed_sameAim e.ctx named).snapshot⟩
    exact (congrArg (fun r : SearchRun => r.state.running) search).trans (Acting.abortSearch_ended e.ctx stopped)

end Sys2Proof.Machine
end

section
/-! PROOFS. O27: CLEAR (R90). -/

namespace Sys2Proof.Machine

/-- R90: a cleared axis. -/
theorem AxisRun.cleared_fault {r : AxisRun} (h : r.state = .fault) : r.cleared = { r with
    state := .stopped, faultCause := .none, owner := .none, goal := none, vPrev := 0, jog := none
    jogTimer := none, stallTimer := none } := by
  simp [cleared, enter, h, AxisState.holdsGoal, AxisState.runs]

/-- R90: what a CLEAR asks of an axis in FAULT. -/
theorem AxisRun.clearable_iff {c : Ctx} {x : Axis} {r : AxisRun} : r.clearable c x = true ↔
    (c.sen.image[positionOf x]).state = .fresh ∧ r.drive = .ready ∧ ∃ left, r.driveAge = .running left := by
  unfold clearable
  rw [Bool.and_eq_true, Bool.and_eq_true, Ctx.posFresh_iff, decide_eq_true_iff, and_assoc]
  cases r.driveAge <;> simp

theorem clears_iff {c : Ctx} {named : Axis → Bool} {a : Acting} {x : Axis} : clears c named a x = true ↔
    (named x = true ∧ (a.axes.get x).state = .fault) ∧ (a.axes.get x).clearable c x = true := by
  unfold clears
  rw [Bool.and_eq_true, Bool.and_eq_true, decide_eq_true_iff]

namespace Acting

/-- A change of axis records that sends nothing places nothing for port D. -/
theorem shiftQuiet_onlyC (c : Ctx) (f : Axis → AxisRun → AxisRun) (a : Acting) : a.out.OnlyC (a.shiftQuiet c f).out := by
  set t : PerAxis AxisRun := ⟨f .mast a.axes.mast, f .pan a.axes.pan, f .tilt a.axes.tilt⟩ with ht
  have reported : (a.setAxes c t).out.OnlyC (a.shiftQuiet c f).out :=
    reportAxes_onlyC c a.axes { a.setAxes c t with pointing := a.pointing.watch t }
  rwa [setAxes_out] at reported

variable (c : Ctx) (named : Axis → Bool) (a : Acting)

/-- R90: the axes that a CLEAR returns. -/
def clearedAxes : Acting := a.shiftQuiet c fun x r => if clears c named a x then r.cleared else r

theorem clearNamed_fst : (a.clearNamed c named).1 = (a.clearedAxes c named).searching SearchRun.forgiven := rfl

theorem clearedAxes_get (x : Axis) : (a.clearedAxes c named).axes.get x =
    if clears c named a x then (a.axes.get x).cleared else a.axes.get x := by
  unfold clearedAxes shiftQuiet
  rw [shift_get]

theorem clearedAxes_search : (a.clearedAxes c named).search = a.search := by
  unfold clearedAxes shiftQuiet
  rw [shift_search]

theorem clearedAxes_seq : (a.clearedAxes c named).seq = a.seq := by
  unfold clearedAxes shiftQuiet
  rw [shift_seq]

theorem clearNamed_driveQueue : (a.clearNamed c named).1.out.driveQueue = a.out.driveQueue := by
  have kept : a.out.OnlyC (a.clearedAxes c named).out := by
    unfold clearedAxes
    exact shiftQuiet_onlyC c _ a
  rw [clearNamed_fst, searching_out]
  exact kept.driveQueue

/-- R90: an axis of a CLEAR stays in FAULT where it is not clearable. -/
theorem clearNamed_stays_iff (x : Axis) :
    (named x = true ∧ ((a.clearNamed c named).1.axes.get x).state = .fault) ↔
      (named x = true ∧ (a.axes.get x).state = .fault) ∧ ¬(a.axes.get x).clearable c x = true := by
  have axis : (a.clearNamed c named).1.axes.get x =
      if clears c named a x then (a.axes.get x).cleared else a.axes.get x := a.clearedAxes_get c named x
  rw [axis]
  by_cases h : clears c named a x = true
  · obtain ⟨-, able⟩ := clears_iff.1 h
    rw [if_pos h]
    exact ⟨fun hf => (by cases hf.2), fun hf => absurd able hf.2⟩
  · rw [if_neg h]
    exact ⟨fun hf => ⟨hf, fun able => h (clears_iff.2 ⟨hf, able⟩)⟩, And.left⟩

/-- R90: the result of a CLEAR, by whether an axis stays in FAULT and whether anything is cleared. -/
theorem clearNamed_result {stays clearsSome : Prop}
    (hs : stays ↔ ∃ x, (named x = true ∧ (a.axes.get x).state = .fault) ∧ ¬(a.axes.get x).clearable c x = true)
    (hc : clearsSome ↔ (∃ x, clears c named a x = true) ∨ a.search.state = .failed) :
    (stays → (a.clearNamed c named).2 = .stillFaulted)
      ∧ (¬stays → clearsSome → (a.clearNamed c named).2 = .done)
      ∧ (¬stays → ¬clearsSome → (a.clearNamed c named).2 = .noChange) := by
  have stays_iff : (axisList.any fun x =>
      named x && decide (((a.clearNamed c named).1.axes.get x).state = .fault)) = true ↔ stays := by
    simp only [List.any_eq_true, mem_axisList, true_and, Bool.and_eq_true, decide_eq_true_eq, clearNamed_stays_iff, hs]
  have clears_some : (axisList.any (clears c named a) || decide (a.search.state = .failed)) = true ↔ clearsSome := by
    simp only [List.any_eq_true, mem_axisList, true_and, Bool.or_eq_true, decide_eq_true_eq, hc]
  exact ⟨fun h => if_pos (stays_iff.2 h),
    fun h hf => (if_neg fun h' => h (stays_iff.1 h')).trans (if_pos (clears_some.2 hf)),
    fun h hf => (if_neg fun h' => h (stays_iff.1 h')).trans (if_neg fun h' => hf (clears_some.1 h'))⟩

/-- R90: a CLEAR is one change of axis records, and of the search. -/
theorem clearNamed_eq_shift : (a.clearNamed c named).1 =
    { a.shift c (fun _ => none) (fun x _ => (a.clearNamed c named).1.axes.get x) with
      search := (a.clearNamed c named).1.search } := by
  have shifted : a.clearedAxes c named = a.shift c (fun _ => none) fun x _ => (a.clearedAxes c named).axes.get x :=
    a.shiftQuiet_eq_shift c _
  have kept : (a.clearNamed c named).1 =
      { a.clearedAxes c named with search := (a.clearNamed c named).1.search } := rfl
  rw [kept]
  exact congrArg (fun b : Acting => { b with search := (a.clearNamed c named).1.search }) shifted

end Acting

/-- Settles O27. -/
theorem clearReturnsFaultedAxes : Obligations.ClearReturnsFaultedAxes := by
  refine ⟨fun w => ⟨namedAxes_outside, fun x hx => ?_, fun hw => ?_⟩, fun s h w hc hn => ?_, fun s h w named hc hn => ?_⟩
  · have one : w.toInt ≠ 3 := by
      have := axis_codes.small x
      rw [hx]
      cases x <;> decide
    refine ⟨fun y => decide (y = x), ?_, fun _ => rfl⟩
    unfold namedAxes
    rw [if_neg one, hx, axis_codes.written]
    rfl
  · exact ⟨everyAxis, if_pos hw, fun _ => rfl⟩
  · exact exec_answered rfl hc nofun nofun (congrArg (answer (frameOf h .clear [w])) (Part.naming_none hn))
  · intro faulted clearable
    set e : Part := s.entered h with he
    have able : ∀ x, clearable x ↔ (e.act.axes.get x).clearable e.ctx x = true := fun x =>
      (AxisRun.clearable_iff (c := e.ctx) (x := x) (r := e.act.axes.get x)).symm
    have clears_at : ∀ x, clears e.ctx named e.act x = true ↔ faulted x ∧ clearable x := fun x =>
      clears_iff.trans (and_congr_right fun _ => (able x).symm)
    have axis := e.act.clearedAxes_get e.ctx named
    obtain ⟨still, done, noChange⟩ := e.act.clearNamed_result e.ctx named Iff.rfl Iff.rfl
    refine ⟨(e.act.clearNamed e.ctx named).1, (e.act.clearNamed e.ctx named).2, ?_, e.act.clearNamed_eq_shift e.ctx named,
      fun x hf ha => ?_, fun x hx => ?_, ?_, e.act.clearedAxes_seq e.ctx named,
      e.act.clearNamed_driveQueue e.ctx named, fun hs => ?_, fun hall hsome => ?_, fun hnone hidle => ?_⟩
    · exact exec_answered rfl hc nofun nofun
        (congrArg (answer (frameOf h .clear [w])) (Part.naming_eq (p := e) hn))
    · refine (axis x).trans ?_
      rw [if_pos ((clears_at x).2 ⟨hf, ha⟩)]
      exact AxisRun.cleared_fault hf.2
    · exact (axis x).trans (if_neg fun h => hx ((clears_at x).1 h))
    · exact congrArg SearchRun.forgiven (e.act.clearedAxes_search e.ctx named)
    · obtain ⟨x, hf, hn⟩ := hs
      exact still ⟨x, hf, fun h => hn ((able x).2 h)⟩
    · refine done ?_ (hsome.imp_left fun ⟨x, hf⟩ => ⟨x, (clears_at x).2 ⟨hf, hall x hf⟩⟩)
      rintro ⟨x, hf, hn⟩
      exact hn ((able x).1 (hall x hf))
    · refine noChange ?_ ?_
      · rintro ⟨x, hf, -⟩
        exact hnone x hf
      · rintro (⟨x, hx⟩ | hx)
        · exact hnone x ((clears_at x).1 hx).1
        · exact hidle hx

end Sys2Proof.Machine
end

section
/-! PROOFS. O29: a servo step (R72 to R76, R86, R88). The step is the outcome of R75 and R76 with the stall timer watched
after it; each theorem says what it leaves of one state. -/

namespace Sys2Proof.Machine

/-! ### The tests of a step -/

theorem within_iff {d : Nat} {e : Int} : within d e = true ↔ -(d : Int) ≤ e ∧ e ≤ d := by
  unfold within
  rw [Bool.and_eq_true, decide_eq_true_iff, decide_eq_true_iff]

/-- R74: a rate is blocked by the permit set, a soft limit, or the mast-down guard. -/
theorem Ctx.blocks_iff {c : Ctx} {x : Axis} {v : Int} : c.blocks x v = true ↔
    v ≠ 0 ∧ (hasDirection c.sen.permit (directionOf x v) = false
      ∨ (0 < v ∧ (c.tab.motion.get x).softMax ≤ c.pos x) ∨ (v < 0 ∧ c.pos x ≤ (c.tab.motion.get x).softMin)
      ∨ (x = .mast ∧ v < 0 ∧ c.pos x ≤ c.tab.pointing.clearHeight
        ∧ ¬(c.inStow .pan = true ∧ c.inStow .tilt = true))) := by
  have at_mast : (x = .mast ∧ v < 0 ∧ c.guardBlocks = true) ↔ (x = .mast ∧ v < 0
      ∧ c.pos x ≤ c.tab.pointing.clearHeight ∧ ¬(c.inStow .pan = true ∧ c.inStow .tilt = true)) :=
    and_congr_right fun hx => and_congr_right fun _ => by rw [Ctx.guardBlocks_iff, hx]
  rw [← at_mast]
  simp only [Ctx.blocks, Bool.and_eq_true, Bool.or_eq_true, decide_eq_true_eq, Bool.not_eq_true', or_assoc, and_assoc,
    ne_eq]

namespace AxisRun

/-- R72, R73: the rate that the step of an axis forms. -/
def nextRate (c : Ctx) (x : Axis) (r : AxisRun) : Int :=
  (c.tab.motion.get x).rate r.vPrev (r.rawDemand (c.tab.motion.get x) (c.pos x))

/-- R75, R76: the axis after its step, but for the stall timer. -/
def stepped (c : Ctx) (x : Axis) (r : AxisRun) : AxisRun :=
  r.outcome (c.tab.motion.get x) (c.pos x) (r.rawDemand (c.tab.motion.get x) (c.pos x)) (r.nextRate c x)
    (c.blocks x (r.nextRate c x))

variable {c : Ctx} {x : Axis} {r : AxisRun}

theorem servo_eq (c : Ctx) (x : Axis) (r : AxisRun) :
    r.servo c x = (r.stepped c x).stallWatch (c.tab.guard.get x) r.state (c.pos x) := rfl

/-- R88: the watch changes the stall timer and the position it records, and nothing else. -/
theorem servo_frame (c : Ctx) (x : Axis) (r : AxisRun) : ∃ timer pos,
    r.servo c x = { r.stepped c x with stallTimer := timer, stallPos := pos } := by
  rw [servo_eq]
  unfold stallWatch
  repeat' split
  all_goals exact ⟨_, _, rfl⟩

/-- R72: the error is 0 where there is no goal. -/
theorem error_eq (r : AxisRun) (p : Int) : r.error p = r.goal.getD p - p := by
  unfold error
  cases r.goal <;> simp

/-! ### The settle run (R76) -/

/-- R76: the settle run of a step that leaves the axis MOVING. -/
def nextRun (c : Ctx) (x : Axis) (r : AxisRun) : Nat :=
  if within (c.tab.motion.get x).deadband (r.error (c.pos x)) then r.settle + 1 else 0

theorem settledAt_reached {m : MotionRecord} {run : Nat} (h : m.settleCount ≤ run) (r : AxisRun) :
    r.settledAt m run = { r.enter .atGoal with settle := 0 } := if_pos h

theorem settledAt_below {m : MotionRecord} {run : Nat} (h : ¬m.settleCount ≤ run) (r : AxisRun) :
    r.settledAt m run = { r with settle := run } := if_neg h

/-! ### The outcome, state by state (R75, R76) -/

theorem stepped_resting (h : r.state = .stopped ∨ r.state = .fault) : r.stepped c x = { r with vPrev := 0 } := by
  unfold stepped outcome
  rcases h with h | h <;> rw [h]

theorem stepped_moving_blocked (h : r.state = .moving) (hb : c.blocks x (r.nextRate c x) = true) :
    r.stepped c x = { r.enter .held with vPrev := 0, settle := 0 } := by
  unfold stepped outcome
  rw [h, hb]
  rfl

theorem stepped_moving (h : r.state = .moving) (hb : c.blocks x (r.nextRate c x) = false) :
    r.stepped c x = { r with vPrev := r.nextRate c x }.settledAt (c.tab.motion.get x) (r.nextRun c x) := by
  unfold stepped outcome
  rw [h, hb]
  rfl

theorem stepped_atGoal_blocked (h : r.state = .atGoal) (hb : c.blocks x (r.nextRate c x) = true) :
    r.stepped c x = { r.enter .held with vPrev := 0, settle := 0 } := by
  unfold stepped outcome
  rw [h, hb]
  rfl

theorem stepped_atGoal_near (h : r.state = .atGoal) (hb : c.blocks x (r.nextRate c x) = false)
    (hn : within (2 * (c.tab.motion.get x).deadband) (r.error (c.pos x)) = true) :
    r.stepped c x = { r with vPrev := r.nextRate c x } := by
  unfold stepped outcome
  rw [h, hb]
  exact if_pos hn

theorem stepped_atGoal_far (h : r.state = .atGoal) (hb : c.blocks x (r.nextRate c x) = false)
    (hn : ¬within (2 * (c.tab.motion.get x).deadband) (r.error (c.pos x)) = true) :
    r.stepped c x = { r.enter .moving with vPrev := r.nextRate c x, settle := 0 } := by
  unfold stepped outcome
  rw [h, hb]
  exact if_neg hn

theorem stepped_jogging (h : r.state = .jogging) :
    r.stepped c x = { r with vPrev := if c.blocks x (r.nextRate c x) then 0 else r.nextRate c x } := by
  unfold stepped outcome
  rw [h]

theorem stepped_stopping_stops (h : r.state = .stopping)
    (hb : c.blocks x (r.nextRate c x) = true ∨ r.nextRate c x = 0) :
    r.stepped c x = { r.enter .stopped with vPrev := 0 } := by
  unfold stepped outcome
  rw [h]
  exact if_pos hb

theorem stepped_stopping_ramps (h : r.state = .stopping)
    (hb : ¬(c.blocks x (r.nextRate c x) = true ∨ r.nextRate c x = 0)) :
    r.stepped c x = { r with vPrev := r.nextRate c x } := by
  unfold stepped outcome
  rw [h]
  exact if_neg hb

theorem stepped_held_notReady (h : r.state = .held) (hd : r.drive = .notReady) :
    r.stepped c x = { r with vPrev := 0 } := by
  unfold stepped outcome
  rw [h]
  exact if_pos hd

theorem stepped_held_settles (h : r.state = .held) (hd : r.drive ≠ .notReady)
    (h0 : r.rawDemand (c.tab.motion.get x) (c.pos x) = 0) :
    r.stepped c x = { r.enter .moving with vPrev := 0 }.settledAt (c.tab.motion.get x) 1 := by
  unfold stepped outcome
  rw [h]
  exact (if_neg hd).trans (if_pos h0)

theorem stepped_held_blocked (h : r.state = .held) (h0 : r.rawDemand (c.tab.motion.get x) (c.pos x) ≠ 0)
    (hb : c.blocks x (r.nextRate c x) = true) : r.stepped c x = { r with vPrev := 0 } := by
  unfold stepped outcome
  rw [h, hb]
  dsimp only
  rw [if_neg h0, if_pos rfl, ite_self]

theorem stepped_held_moves (h : r.state = .held) (hd : r.drive ≠ .notReady)
    (h0 : r.rawDemand (c.tab.motion.get x) (c.pos x) ≠ 0) (hb : c.blocks x (r.nextRate c x) = false) :
    r.stepped c x = { r.enter .moving with vPrev := r.nextRate c x, settle := 0 } := by
  unfold stepped outcome
  rw [h, hb]
  dsimp only
  rw [if_neg hd, if_neg h0, if_neg Bool.false_ne_true]

/-! ### What every outcome keeps -/

/-- What a step leaves as it was, whatever its state: all but state, goal, v_prev, settle run, jog request, fault cause
and stall timer. -/
structure Steps (r r' : AxisRun) : Prop where
  owner : r'.owner = r.owner := by rfl
  updateTimer : r'.updateTimer = r.updateTimer := by rfl
  drive : r'.drive = r.drive := by rfl
  driveAge : r'.driveAge = r.driveAge := by rfl
  driveCause : r'.driveCause = r.driveCause := by rfl
  stallPos : r'.stallPos = r.stallPos := by rfl
  goal : r.state.holdsGoal = true → r'.state.holdsGoal = true ∧ r'.goal = r.goal
  stallTimer : r'.stallTimer =
    if r'.state = r.state ∨ (r'.state.runs && r.state.runs) = true then r.stallTimer else none

namespace Steps

theorem rate (v : Int) (r : AxisRun) : r.Steps { r with vPrev := v } :=
  { goal := fun h => ⟨h, rfl⟩, stallTimer := (if_pos (Or.inl rfl)).symm }

/-- A step that enters a state. -/
theorem enter {st : AxisState} (h : r.state.holdsGoal = true → st.holdsGoal = true) (v : Int) (run : Nat) :
    r.Steps { r.enter st with vPrev := v, settle := run } :=
  { goal := fun hg => ⟨h hg, if_pos (h hg)⟩, stallTimer := rfl }

/-- R76: the settle count is reached by an axis that moves. -/
theorem settledAt {r' : AxisRun} (h : r.Steps r') (hg : r.state.holdsGoal = true) (hr : r.state ≠ .atGoal)
    (hm : r'.state = .moving) (m : MotionRecord) (run : Nat) : r.Steps (r'.settledAt m run) := by
  obtain ⟨-, goal⟩ := h.goal hg
  by_cases hrun : m.settleCount ≤ run
  · rw [settledAt_reached hrun]
    refine { h with goal := fun _ => ⟨rfl, goal⟩, stallTimer := ?_ }
    have stops : (r'.enter .atGoal).stallTimer = none := by
      rw [enter_stallTimer, hm]
      rfl
    exact stops.trans (if_neg fun same => same.elim (fun e => hr e.symm) nofun).symm
  · rw [settledAt_below hrun]
    exact { h with }

end Steps

/-- R72 to R76: the outcome of a step, in every state. -/
theorem stepped_steps (c : Ctx) (x : Axis) (r : AxisRun) : r.Steps (r.stepped c x) := by
  cases hs : r.state with
  | stopped => exact stepped_resting (.inl hs) ▸ .rate 0 r
  | fault => exact stepped_resting (.inr hs) ▸ .rate 0 r
  | jogging => exact stepped_jogging hs ▸ .rate _ r
  | moving =>
    cases hb : c.blocks x (r.nextRate c x) with
    | true => exact stepped_moving_blocked hs hb ▸ .enter (fun _ => rfl) 0 0
    | false =>
      have moved : r.Steps { r with vPrev := r.nextRate c x } := .rate _ r
      exact stepped_moving hs hb ▸ moved.settledAt (by rw [hs]; rfl) (by rw [hs]; decide) hs _ _
  | atGoal =>
    cases hb : c.blocks x (r.nextRate c x) with
    | true => exact stepped_atGoal_blocked hs hb ▸ .enter (fun _ => rfl) 0 0
    | false =>
      by_cases hn : within (2 * (c.tab.motion.get x).deadband) (r.error (c.pos x)) = true
      · exact stepped_atGoal_near hs hb hn ▸ .rate _ r
      · exact stepped_atGoal_far hs hb hn ▸ .enter (fun _ => rfl) _ 0
  | stopping =>
    by_cases h0 : c.blocks x (r.nextRate c x) = true ∨ r.nextRate c x = 0
    · exact stepped_stopping_stops hs h0 ▸ .enter (fun hg => nomatch (congrArg AxisState.holdsGoal hs).symm.trans hg) 0 r.settle
    · exact stepped_stopping_ramps hs h0 ▸ .rate _ r
  | held =>
    by_cases hd : r.drive = .notReady
    · exact stepped_held_notReady hs hd ▸ .rate 0 r
    by_cases h0 : r.rawDemand (c.tab.motion.get x) (c.pos x) = 0
    · have moved : r.Steps { r.enter .moving with vPrev := 0 } := .enter (fun _ => rfl) 0 r.settle
      exact stepped_held_settles hs hd h0 ▸ moved.settledAt (by rw [hs]; rfl) (by rw [hs]; decide) rfl _ _
    cases hb : c.blocks x (r.nextRate c x) with
    | true => exact stepped_held_blocked hs h0 hb ▸ .rate 0 r
    | false => exact stepped_held_moves hs hd h0 hb ▸ .enter (fun _ => rfl) _ 0

/-- R76: a step that leaves an axis AT_GOAL counts nothing. -/
theorem stepped_atGoal_settle (h : r.state = .atGoal) (hs : (r.stepped c x).state = .atGoal) :
    (r.stepped c x).settle = r.settle := by
  cases hb : c.blocks x (r.nextRate c x) with
  | true =>
    rw [stepped_atGoal_blocked h hb] at hs
    cases hs
  | false =>
    by_cases hn : within (2 * (c.tab.motion.get x).deadband) (r.error (c.pos x)) = true
    · rw [stepped_atGoal_near h hb hn]
    · rw [stepped_atGoal_far h hb hn] at hs
      cases hs

/-- R76: nor does one that leaves it HELD. -/
theorem stepped_held_settle (h : r.state = .held) (hs : (r.stepped c x).state = .held) :
    (r.stepped c x).settle = r.settle := by
  by_cases hd : r.drive = .notReady
  · rw [stepped_held_notReady h hd]
  by_cases h0 : r.rawDemand (c.tab.motion.get x) (c.pos x) = 0
  · rw [stepped_held_settles h hd h0] at hs
    unfold settledAt at hs
    split at hs <;> cases hs
  cases hb : c.blocks x (r.nextRate c x) with
  | true => rw [stepped_held_blocked h h0 hb]
  | false =>
    rw [stepped_held_moves h hd h0 hb] at hs
    cases hs

/-! ### The stall timer (R88) -/

theorem stallWatch_slow {g : GuardRecord} (h : r.vPrev.natAbs < g.stallDemand) (before : AxisState) (p : Int) :
    r.stallWatch g before p = { r with stallTimer := none } := if_pos h

theorem stallWatch_starts {g : GuardRecord} {before : AxisState} (h : ¬r.vPrev.natAbs < g.stallDemand)
    (runs : (before.runs && r.state.runs) = true) (ht : r.stallTimer = none) (p : Int) :
    r.stallWatch g before p = { r with stallTimer := some g.stallWait, stallPos := some p } :=
  (if_neg h).trans (if_pos (by rw [runs, ht]; rfl))

theorem stallWatch_goes_on {g : GuardRecord} {before : AxisState} (h : ¬r.vPrev.natAbs < g.stallDemand)
    (on : ¬((before.runs && r.state.runs) = true ∧ r.stallTimer = none)) (p : Int) : r.stallWatch g before p = r :=
  (if_neg h).trans (if_neg fun hb => on (by simpa using hb))

theorem runs_iff {st : AxisState} : st.runs = true ↔ st = .moving ∨ st = .jogging := by
  cases st <;> decide

/-! ### The step, state by state -/

/-- R76: the settle run at a value. -/
theorem settledAt_iff (m : MotionRecord) (run : Nat) (r : AxisRun) :
    if m.settleCount ≤ run then (r.settledAt m run).state = .atGoal ∧ (r.settledAt m run).settle = 0
    else (r.settledAt m run).state = r.state ∧ (r.settledAt m run).settle = run := by
  split
  next h =>
    rw [settledAt_reached h]
    exact ⟨rfl, rfl⟩
  next h =>
    rw [settledAt_below h]
    exact ⟨rfl, rfl⟩

section Fields

variable (c : Ctx) (x : Axis) (r : AxisRun)

theorem servo_state : (r.servo c x).state = (r.stepped c x).state := by
  obtain ⟨_, _, h⟩ := r.servo_frame c x
  rw [h]

theorem servo_goal : (r.servo c x).goal = (r.stepped c x).goal := by
  obtain ⟨_, _, h⟩ := r.servo_frame c x
  rw [h]

theorem servo_jog : (r.servo c x).jog = (r.stepped c x).jog := by
  obtain ⟨_, _, h⟩ := r.servo_frame c x
  rw [h]

theorem servo_jogTimer : (r.servo c x).jogTimer = (r.stepped c x).jogTimer := by
  obtain ⟨_, _, h⟩ := r.servo_frame c x
  rw [h]

theorem servo_vPrev : (r.servo c x).vPrev = (r.stepped c x).vPrev := by
  obtain ⟨_, _, h⟩ := r.servo_frame c x
  rw [h]

theorem servo_settle : (r.servo c x).settle = (r.stepped c x).settle := by
  obtain ⟨_, _, h⟩ := r.servo_frame c x
  rw [h]

theorem servo_faultCause : (r.servo c x).faultCause = (r.stepped c x).faultCause := by
  obtain ⟨_, _, h⟩ := r.servo_frame c x
  rw [h]

/-- The step is the outcome, in all but the stall timer. -/
theorem servo_of_stepped {o : AxisRun} (h : r.stepped c x = o) :
    (r.servo c x).state = o.state ∧ (r.servo c x).vPrev = o.vPrev ∧ (r.servo c x).settle = o.settle := by
  rw [servo_state, servo_vPrev, servo_settle, h]
  exact ⟨rfl, rfl, rfl⟩

/-- What the step leaves as it was. -/
theorem servo_kept : (r.servo c x).owner = r.owner ∧ (r.servo c x).updateTimer = r.updateTimer
    ∧ (r.servo c x).drive = r.drive ∧ (r.servo c x).driveAge = r.driveAge
    ∧ (r.servo c x).driveCause = r.driveCause := by
  have kept := r.stepped_steps c x
  obtain ⟨_, _, h⟩ := r.servo_frame c x
  rw [h]
  exact ⟨kept.owner, kept.updateTimer, kept.drive, kept.driveAge, kept.driveCause⟩

end Fields

/-- R88: the stall timer at a step that leaves a rate of at least the stall demand. -/
theorem servo_stall_fast (h : (c.tab.guard.get x).stallDemand ≤ (r.servo c x).vPrev.natAbs) :
    let new := r.servo c x
    let g := c.tab.guard.get x
    let runs := (r.state = .moving ∨ r.state = .jogging) ∧ (new.state = .moving ∨ new.state = .jogging)
    (runs → r.stallTimer = none → new.stallTimer = some (g.stallTime * 100000) ∧ new.stallPos = some (c.pos x))
      ∧ (runs → r.stallTimer.isSome = true → new.stallTimer = r.stallTimer ∧ new.stallPos = r.stallPos)
      ∧ (¬runs → new.state = r.state → new.stallTimer = r.stallTimer ∧ new.stallPos = r.stallPos)
      ∧ (¬runs → new.state ≠ r.state → new.stallTimer = none ∧ new.stallPos = r.stallPos) := by
  intro new g runs
  have kept := r.stepped_steps c x
  have fast : ¬(r.stepped c x).vPrev.natAbs < g.stallDemand := by
    rw [← servo_vPrev]
    exact Nat.not_lt.2 h
  have state : new.state = (r.stepped c x).state := r.servo_state c x
  have runs_iff : (r.state.runs && (r.stepped c x).state.runs) = true ↔ runs := by
    rw [Bool.and_eq_true, runs_iff, runs_iff, ← state]
  have timer_kept : runs → (r.stepped c x).stallTimer = r.stallTimer := fun hr =>
    kept.stallTimer.trans (if_pos (.inr ((Bool.and_comm _ _).trans (runs_iff.2 hr))))
  have goes_on : ¬(runs ∧ (r.stepped c x).stallTimer = none) → new = r.stepped c x := fun hr =>
    stallWatch_goes_on fast (fun hb => hr ⟨runs_iff.1 hb.1, hb.2⟩) _
  refine ⟨fun hr ht => ?_, fun hr ht => ?_, fun hr hs => ?_, fun hr hs => ?_⟩
  · have starts : new = { r.stepped c x with stallTimer := some g.stallWait, stallPos := some (c.pos x) } :=
      stallWatch_starts fast (runs_iff.2 hr) ((timer_kept hr).trans ht) _
    rw [starts]
    exact ⟨rfl, rfl⟩
  · rw [goes_on fun hn => by rw [← timer_kept hr, hn.2] at ht; cases ht]
    exact ⟨timer_kept hr, kept.stallPos⟩
  · rw [goes_on fun hn => hr hn.1]
    exact ⟨kept.stallTimer.trans (if_pos (.inl (state.symm.trans hs))), kept.stallPos⟩
  · rw [goes_on fun hn => hr hn.1]
    refine ⟨kept.stallTimer.trans (if_neg fun hn => ?_), kept.stallPos⟩
    exact hn.elim (fun e => hs (state.trans e)) fun hb => hr (runs_iff.1 ((Bool.and_comm _ _).trans hb))

theorem servo_stall_slow (h : (r.servo c x).vPrev.natAbs < (c.tab.guard.get x).stallDemand) :
    (r.servo c x).stallTimer = none ∧ (r.servo c x).stallPos = r.stallPos := by
  rw [servo_vPrev] at h
  rw [servo_eq, stallWatch_slow h]
  exact ⟨rfl, (r.stepped_steps c x).stallPos⟩

end AxisRun

/-- Settles O29, state by state. -/
theorem servoStepAsTable : Obligations.ServoStepAsTable := by
  intro c x r m p e near raw limited slewed v blocked run new settles holds
  have near_iff : ∀ k : Nat, within k (r.error p) = true ↔ near k := fun k => by
    rw [within_iff, AxisRun.error_eq]
  have rawDemand : r.state ≠ .stopped → r.state ≠ .fault → r.rawDemand m p = raw := fun hs hf => by
    have jogs : r.state = .jogging → r.rawDemand m p = raw := fun h => by
      unfold AxisRun.rawDemand
      rw [h]
      exact (if_pos h).symm
    have serves : r.state = .moving ∨ r.state = .atGoal ∨ r.state = .held → r.rawDemand m p = raw := fun h => by
      have form : r.rawDemand m p =
          if within m.deadband (r.error p) then 0 else ((m.gain : Int) * r.error p).tdiv 16 := by
        unfold AxisRun.rawDemand
        rcases h with h | h | h <;> rw [h]
      have not_jogging : r.state ≠ .jogging := by rcases h with h | h | h <;> rw [h] <;> decide
      have not_stopping : r.state ≠ .stopping := by rcases h with h | h | h <;> rw [h] <;> decide
      refine form.trans (Eq.trans ?_ (if_neg not_jogging).symm)
      refine if_congr ((near_iff _).trans ⟨.inr, fun hn => hn.resolve_left not_stopping⟩) rfl ?_
      rw [AxisRun.error_eq]
    have ramps : r.state = .stopping → r.rawDemand m p = raw := fun h => by
      unfold AxisRun.rawDemand
      rw [h]
      exact ((if_neg (by rw [h]; decide)).trans (if_pos (.inl h))).symm
    cases h : r.state with
    | stopped => exact absurd h hs
    | fault => exact absurd h hf
    | jogging => exact jogs h
    | moving => exact serves (.inl h)
    | atGoal => exact serves (.inr (.inl h))
    | held => exact serves (.inr (.inr h))
    | stopping => exact ramps h
  have rate : r.state ≠ .stopped → r.state ≠ .fault → r.nextRate c x = v := fun hs hf =>
    congrArg (m.rate r.vPrev) (rawDemand hs hf)
  have moves : ∀ {st : AxisState}, r.state = st → st ≠ .stopped → st ≠ .fault →
      r.nextRate c x = v ∧ (c.blocks x (r.nextRate c x) = true ↔ blocked) := fun h hs hf => by
    have hv := rate (h ▸ hs) (h ▸ hf)
    rw [hv]
    exact ⟨rfl, Ctx.blocks_iff⟩
  have free : ∀ {st : AxisState}, r.state = st → st ≠ .stopped → st ≠ .fault → ¬blocked →
      c.blocks x (r.nextRate c x) = false := fun h hs hf hb =>
    Bool.eq_false_iff.2 fun h' => hb ((moves h hs hf).2.1 h')
  obtain ⟨owner, updateTimer, drive, driveAge, driveCause⟩ := r.servo_kept c x
  have steps := r.stepped_steps c x
  refine ⟨fun h => ?_, fun h => ⟨fun hb => ?_, fun hb => ?_⟩, fun h => ⟨fun hb => ?_, fun hb => ?_⟩, fun h => ?_,
    fun h => ⟨fun hb => ?_, fun hb h0 => ?_⟩, fun h => ⟨fun hd => ?_, fun h0 hd => ?_, fun h0 hb => ?_, fun h0 hb hd => ?_⟩,
    fun h => ?_, owner, updateTimer, drive, driveAge, driveCause, fun h => ?_, fun h => ?_, fun h => ?_,
    r.servo_stall_slow, r.servo_stall_fast⟩
  -- a STOPPED or FAULT axis
  · obtain ⟨state, vPrev, -⟩ := r.servo_of_stepped c x (AxisRun.stepped_resting h)
    exact ⟨state, vPrev⟩
  -- a MOVING axis
  · obtain ⟨state, vPrev, settle⟩ := r.servo_of_stepped c x
      (AxisRun.stepped_moving_blocked h ((moves h nofun nofun).2.2 hb))
    exact ⟨state, settle, vPrev⟩
  · obtain ⟨state, vPrev, settle⟩ := r.servo_of_stepped c x (AxisRun.stepped_moving h (free h nofun nofun hb))
    have settled := AxisRun.settledAt_iff m run { r with vPrev := r.nextRate c x }
    have counts : r.nextRun c x = run := if_congr (near_iff _) rfl rfl
    refine ⟨vPrev.trans ((AxisRun.settledAt_vPrev _ _ _).trans (moves h nofun nofun).1), ?_⟩
    rw [counts] at state settle
    rw [← state, ← settle, h] at settled
    exact settled
  -- an AT_GOAL axis
  · obtain ⟨state, vPrev, settle⟩ := r.servo_of_stepped c x
      (AxisRun.stepped_atGoal_blocked h ((moves h nofun nofun).2.2 hb))
    exact ⟨state, settle, vPrev⟩
  · have hf := free h nofun nofun hb
    have hv := (moves h nofun nofun).1
    by_cases hn : within (2 * m.deadband) (r.error p) = true
    · obtain ⟨state, vPrev, -⟩ := r.servo_of_stepped c x (AxisRun.stepped_atGoal_near h hf hn)
      exact ⟨vPrev.trans hv, fun _ => state.trans h, fun far => absurd ((near_iff _).1 hn) far⟩
    · obtain ⟨state, vPrev, settle⟩ := r.servo_of_stepped c x (AxisRun.stepped_atGoal_far h hf hn)
      exact ⟨vPrev.trans hv, fun close => absurd ((near_iff _).2 close) hn, fun _ => ⟨state, settle⟩⟩
  -- a JOGGING axis
  · have out := AxisRun.stepped_jogging (c := c) (x := x) h
    obtain ⟨state, vPrev, -⟩ := r.servo_of_stepped c x out
    refine ⟨state.trans h, (r.servo_jog c x).trans (by rw [out]), fun hb => ?_, fun hb => ?_⟩
    · exact vPrev.trans (if_pos ((moves h nofun nofun).2.2 hb))
    · exact (vPrev.trans (if_neg (Bool.eq_false_iff.1 (free h nofun nofun hb)))).trans (moves h nofun nofun).1
  -- a STOPPING axis
  · have stops : c.blocks x (r.nextRate c x) = true ∨ r.nextRate c x = 0 :=
      hb.imp (moves h nofun nofun).2.2 (moves h nofun nofun).1.trans
    obtain ⟨state, vPrev, -⟩ := r.servo_of_stepped c x (AxisRun.stepped_stopping_stops h stops)
    exact ⟨state, vPrev⟩
  · have ramps : ¬(c.blocks x (r.nextRate c x) = true ∨ r.nextRate c x = 0) := fun hs =>
      hs.elim (fun h' => hb ((moves h nofun nofun).2.1 h')) fun h' => h0 ((moves h nofun nofun).1.symm.trans h')
    obtain ⟨state, vPrev, -⟩ := r.servo_of_stepped c x (AxisRun.stepped_stopping_ramps h ramps)
    exact ⟨state.trans h, vPrev.trans (moves h nofun nofun).1⟩
  -- a HELD axis
  · obtain ⟨state, vPrev, -⟩ := r.servo_of_stepped c x (AxisRun.stepped_held_notReady h hd)
    exact ⟨state.trans h, vPrev⟩
  · have none_raw : r.rawDemand m p = 0 := (rawDemand (h ▸ nofun) (h ▸ nofun)).trans h0
    obtain ⟨state, vPrev, settle⟩ := r.servo_of_stepped c x (AxisRun.stepped_held_settles h hd none_raw)
    have settled := AxisRun.settledAt_iff m 1 { r.enter .moving with vPrev := 0 }
    rw [← state, ← settle] at settled
    refine ⟨vPrev.trans (AxisRun.settledAt_vPrev _ _ _), fun hm => ?_, fun hm => ?_⟩
    · rwa [if_pos hm] at settled
    · rwa [if_neg (Nat.not_le.2 hm)] at settled
  · have some_raw : r.rawDemand m p ≠ 0 := fun hr => h0 ((rawDemand (h ▸ nofun) (h ▸ nofun)).symm.trans hr)
    obtain ⟨state, vPrev, -⟩ := r.servo_of_stepped c x
      (AxisRun.stepped_held_blocked h some_raw ((moves h nofun nofun).2.2 hb))
    exact ⟨state.trans h, vPrev⟩
  · have some_raw : r.rawDemand m p ≠ 0 := fun hr => h0 ((rawDemand (h ▸ nofun) (h ▸ nofun)).symm.trans hr)
    obtain ⟨state, vPrev, settle⟩ := r.servo_of_stepped c x
      (AxisRun.stepped_held_moves h hd some_raw (free h nofun nofun hb))
    exact ⟨state, vPrev.trans (moves h nofun nofun).1, settle⟩
  -- what the step keeps
  · have holds_goal : r.state.holdsGoal = true := by rcases h with h | h | h <;> rw [h] <;> rfl
    exact (r.servo_goal c x).trans (steps.goal holds_goal).2
  · exact (r.servo_jogTimer c x).trans (by rw [AxisRun.stepped_jogging h])
  · exact (r.servo_faultCause c x).trans (by rw [AxisRun.stepped_resting (.inr h)])
  · refine (r.servo_settle c x).trans ?_
    have state : new.state = (r.stepped c x).state := r.servo_state c x
    rcases h with h | h | h | h | ⟨h, hs⟩ | ⟨h, hs⟩
    · rw [AxisRun.stepped_resting (.inl h)]
    · rw [AxisRun.stepped_resting (.inr h)]
    · rw [AxisRun.stepped_jogging h]
    · by_cases h0 : c.blocks x (r.nextRate c x) = true ∨ r.nextRate c x = 0
      · rw [AxisRun.stepped_stopping_stops h h0]
        rfl
      · rw [AxisRun.stepped_stopping_ramps h h0]
    · exact AxisRun.stepped_atGoal_settle h (state.symm.trans hs)
    · exact AxisRun.stepped_held_settle h (state.symm.trans hs)

end Sys2Proof.Machine
end

section
/-! PROOFS. O30: the laws of the drive demands at a servo step (R73, R74). -/

namespace Sys2Proof.Machine

namespace AxisRun

/-- R75: a step that is not blocked leaves the rate it forms, or none. -/
theorem outcome_free_vPrev (m : MotionRecord) (p raw v : Int) (r : AxisRun) :
    (r.outcome m p raw v false).vPrev = 0 ∨ (r.outcome m p raw v false).vPrev = v := by
  unfold outcome
  dsimp only
  simp only [Bool.false_eq_true, if_false, false_or]
  split
  case h_1 | h_2 => exact .inl rfl
  case h_3 => exact .inr (settledAt_vPrev _ _ _)
  case h_4 => split <;> exact .inr rfl
  case h_5 => exact .inr rfl
  case h_6 => split <;> [exact .inl rfl; exact .inr rfl]
  case h_7 =>
    split
    · exact .inl rfl
    split
    · exact .inl (settledAt_vPrev _ _ _)
    · exact .inr rfl

/-- R74, R75: a step leaves no rate but one that it forms and that is not blocked. -/
theorem servo_vPrev_cases (c : Ctx) (x : Axis) (r : AxisRun) : (r.servo c x).vPrev = 0
    ∨ ((r.servo c x).vPrev = r.nextRate c x ∧ c.blocks x (r.nextRate c x) = false) := by
  rw [servo_vPrev]
  unfold stepped
  cases hb : c.blocks x (r.nextRate c x) with
  | true => exact .inl (r.outcome_blocked_vPrev _ _ _ _)
  | false => exact (r.outcome_free_vPrev _ _ _ _).imp_right fun h => ⟨h, rfl⟩

end AxisRun

/-- R73: the rate lies within the accel step of the one before it, but for one that the clamp to vmax brings nearer
to 0. -/
theorem MotionRecord.rate_slewed (m : MotionRecord) (vPrev raw : Int) :
    let v := m.rate vPrev raw
    (vPrev - m.accel ≤ v ∧ v ≤ vPrev + m.accel) ∨ v = 0 ∨ (0 < v ∧ v < vPrev) ∨ (vPrev < v ∧ v < 0) := by
  unfold MotionRecord.rate clampTo
  dsimp only
  omega

/-- Settles O30. -/
theorem demandLawsAtServoStep : Obligations.DemandLawsAtServoStep := by
  intro c x r m v
  obtain ⟨lo, hi, permitted⟩ := AxisRun.rateLaw.servo c x r
  have formed := r.servo_vPrev_cases c x
  refine ⟨⟨hi, lo⟩, ?_, fun hv => (permitted hv).1, fun fresh hv => ?_, fun hx hv => ?_⟩
  · rcases formed with h0 | ⟨rate, -⟩
    · exact .inr (.inl h0)
    · have slewed := m.rate_slewed r.vPrev (r.rawDemand m (c.pos x))
      rw [show m.rate r.vPrev (r.rawDemand m (c.pos x)) = v from rate.symm] at slewed
      exact slewed
  · have rests : r.state = .stopped ∨ r.state = .fault → v = 0 := fun h =>
      (r.servo_vPrev c x).trans (by rw [AxisRun.stepped_resting h])
    rcases fresh with h | h | h
    · exact absurd (rests (.inl h)) hv
    · exact absurd (rests (.inr h)) hv
    · exact h
  · rcases formed with h0 | ⟨rate, free⟩
    · exact absurd h0 (Int.ne_of_lt hv)
    · by_contra low
      obtain ⟨above, outside⟩ := not_or.1 low
      have blocked : c.blocks x (r.nextRate c x) = true := Ctx.blocks_iff.2
        ⟨rate ▸ Int.ne_of_lt hv, .inr (.inr (.inr ⟨hx, rate ▸ hv, hx ▸ Int.not_lt.1 above, outside⟩))⟩
      exact nomatch free.symm.trans blocked

end Sys2Proof.Machine
end

section
/-! PROOFS. O31: UPDATE_EXPIRY (R71). -/

namespace Sys2Proof.Machine

/-- A change of one axis record changes that record alone. -/
theorem Acting.shift_one_axes (c : Ctx) (rate : Axis → Option Int) (x : Axis) (r : AxisRun) (a : Acting) :
    (a.shift c rate fun y old => if y = x then r else old).axes = a.axes.set x r := by
  rw [shift_axes]
  cases x <;> rfl

/-- R71: the change of axis records by which a servo step moves an axis. -/
def Acting.served (c : Ctx) (x : Axis) (a : Acting) : Acting :=
  a.shift c (fun y => if y = x then some ((a.axes.get x).servo c x).vPrev else none)
    fun y old => if y = x then (a.axes.get x).servo c x else old

theorem Acting.servoStep_eq (c : Ctx) (x : Axis) (a : Acting) :
    a.servoStep c x = (a.served c x).handAxes c a.axes := rfl

namespace Acting

variable {c : Ctx} {x : Axis} {a : Acting}

/-- R71: the reload of an update timer. -/
def reloaded (c : Ctx) (x : Axis) (a : Acting) : Acting :=
  a.tune x fun r => { r with updateTimer := some (c.tab.motion.get x).updateTime }

theorem updateExpired_waits (ht : (a.axes.get x).updateTimer.isSome = true) (hw : a.out.demandWaits x = true) :
    a.updateExpired c x = a.reloaded c x :=
  (if_neg (by simpa [Option.isSome_iff_ne_none] using ht)).trans (if_pos hw)

theorem updateExpired_steps (ht : (a.axes.get x).updateTimer.isSome = true) (hw : a.out.demandWaits x = false) :
    a.updateExpired c x = (a.reloaded c x).servoStep c x :=
  (if_neg (by simpa [Option.isSome_iff_ne_none] using ht)).trans (if_neg (Bool.eq_false_iff.1 hw))

end Acting

/-- Settles O31. -/
theorem updateExpiryMakesOneStep : Obligations.UpdateExpiryMakesOneStep := by
  intro s x live timed reloaded axes
  have run : exec (.updateExpiry x) s =
      .next (s.settled { s.part with act := s.part.act.updateExpired s.part.ctx x }) := State.run_live live _
  have at_x : (s.part.act.reloaded s.part.ctx x).axes.get x = reloaded := PerAxis.get_set_self _ _ _
  refine ⟨fun hw => ?_, fun hw => ⟨(s.part.act.reloaded s.part.ctx x).served s.part.ctx x, ?_, ?_, ?_, ?_, ?_, fun hd => ?_⟩⟩
  · rw [run, Acting.updateExpired_waits timed hw]
    rfl
  · rw [run, Acting.updateExpired_steps timed hw, Acting.servoStep_eq]
    rfl
  · unfold Acting.served
    rw [Acting.shift_one_axes, at_x]
    rfl
  · unfold Acting.served
    rw [at_x]
    rfl
  · exact Acting.shift_search _ _ _ _
  · exact Acting.shift_seq _ _ _ _
  · unfold Acting.served
    rw [at_x]
    exact Acting.sends_shift (if_pos rfl) hd _ _

end Sys2Proof.Machine
end

section
/-! SUPPORT. What a cause of suspension that leaves, and the end of a sequence, can do to the axes (R117, R121, R137): a
search that goes on may fail, and release its own. -/

namespace Sys2Proof.Machine

namespace Acting

/-- The axes of `b` are those of `a`, but for axes of the search that are released; the sequencer is as it was. -/
structure FreesSearch (a b : Acting) : Prop where
  axes : ∀ y, b.axes.get y = a.axes.get y
    ∨ ((a.axes.get y).owner = .search ∧ b.axes.get y = (a.axes.get y).released)
  seq : b.seq = a.seq

namespace FreesSearch

variable {c : Ctx} {a b : Acting}

theorem refl (a : Acting) : a.FreesSearch a := ⟨fun _ => .inl rfl, rfl⟩

/-- A change of the search record alone comes before it. -/
theorem of_searching {f : SearchRun → SearchRun} (h : (a.searching f).FreesSearch b) : a.FreesSearch b :=
  ⟨h.axes, h.seq⟩

theorem failSearch (r : FailureReason) (a : Acting) : a.FreesSearch (a.failSearch c r) := by
  by_cases h : a.search.state.running = true
  · rw [failSearch_running c r h]
    refine ⟨fun y => ?_, a.endSearch_seq c _ _ _⟩
    rw [endSearch_get]
    split
    next ho => exact .inr ⟨ho, rfl⟩
    · exact .inl rfl
  · rw [failSearch_not_running c r h]
    exact refl a

theorem peakOrFail (a : Acting) : a.FreesSearch (a.peakOrFail c) := by
  unfold Acting.peakOrFail
  split
  · split
    · exact of_searching (refl _)
    · exact failSearch _ a
  · exact failSearch _ a

theorem returnCheck (a : Acting) : a.FreesSearch (a.returnCheck c) := by
  unfold Acting.returnCheck
  split
  exacts [peakOrFail a, refl a]

theorem resumeSearch (a : Acting) : a.FreesSearch (a.resumeSearch c) := by
  unfold Acting.resumeSearch
  split
  · exact of_searching (refl _)
  · exact of_searching (returnCheck _)

theorem leaveCause (f : SuspendCauses → SuspendCauses) (a : Acting) : a.FreesSearch (a.leaveCause c f) := by
  unfold Acting.leaveCause
  dsimp only
  split
  · split
    · exact of_searching (resumeSearch _)
    · exact of_searching (refl _)
  · exact refl a

theorem lowerEnds (was : SequenceState) (a : Acting) : a.FreesSearch (a.lowerEnds c was) := by
  unfold Acting.lowerEnds
  split
  exacts [leaveCause _ a, refl a]

end FreesSearch

variable (c : Ctx) (e : Ending) (r : SequenceReason) (a : Acting)

/-- R137: the release of a sequence that ends; then the search hears of the end of a LOWER. -/
theorem endSequence_release_eq : a.endSequence c e r .release = Acting.sequenceEvent c a.seq.state.sequence e
    (sequenceReasonCode r) a.seq.state { (a.seqFreed c).lowerEnds c a.seq.state with
      seq := ((a.seqFreed c).lowerEnds c a.seq.state).seq.record a.seq.state.sequence e r } := rfl

theorem endSequence_axes : (a.endSequence c e r .release).axes = ((a.seqFreed c).lowerEnds c a.seq.state).axes := by
  rw [endSequence_release_eq, sequenceEvent_axes]

theorem endSequence_search :
    (a.endSequence c e r .release).search = ((a.seqFreed c).lowerEnds c a.seq.state).search := by
  rw [endSequence_release_eq, sequenceEvent_search]

/-- R137, R139: the sequencer after an end. -/
theorem endSequence_seq : (a.endSequence c e r .release).seq =
    { a.seq with state := .idle, timer := none, lastName := a.seq.state.sequence, lastOutcome := e, lastReason := r } := by
  rw [endSequence_release_eq, sequenceEvent_seq]
  dsimp only
  rw [(FreesSearch.lowerEnds (c := c) a.seq.state (a.seqFreed c)).seq, seqFreed_seq]
  rfl

theorem seqFreed_axis (x : Axis) : (a.seqFreed c).axes.get x =
    if (a.axes.get x).owner = .safety then (a.axes.get x).released else a.axes.get x :=
  release_get c .safety { a with seq := { a.seq with state := .idle, timer := none } } x

/-- R121, R137: nothing but the end of a LOWER lets a suspended search go on. -/
theorem lowerEnds_quiet {was : SequenceState} (h : ¬(was = .lowering ∧ a.search.state = .suspended)) :
    a.lowerEnds c was = a := by
  unfold lowerEnds
  split
  next hw => exact if_neg fun hs => h ⟨hw, hs.1⟩
  · rfl

theorem endSequence_get_quiet (h : ¬(a.seq.state = .lowering ∧ a.search.state = .suspended)) (x : Axis) :
    (a.endSequence c e r .release).axes.get x =
      if (a.axes.get x).owner = .safety then (a.axes.get x).released else a.axes.get x := by
  rw [endSequence_axes, lowerEnds_quiet c (a.seqFreed c) (by rwa [seqFreed_search]), seqFreed_axis]

/-- R137: an end of a sequence leaves each axis as it was, or releases it from the sequence or the search. -/
theorem endSequence_get_cases (x : Axis) :
    (a.endSequence c e r .release).axes.get x = a.axes.get x
      ∨ ((a.axes.get x).owner ≠ .none ∧ (a.endSequence c e r .release).axes.get x = (a.axes.get x).released) := by
  have freed := a.seqFreed_axis c x
  rw [endSequence_axes]
  by_cases ho : (a.axes.get x).owner = .safety
  · rw [if_pos ho] at freed
    have kept := ((FreesSearch.lowerEnds (c := c) a.seq.state (a.seqFreed c)).axes x).resolve_right fun hs => by
      rw [freed, AxisRun.released_owner] at hs
      cases hs.1
    exact .inr ⟨ho ▸ nofun, kept.trans freed⟩
  · rw [if_neg ho] at freed
    have let_go := (FreesSearch.lowerEnds (c := c) a.seq.state (a.seqFreed c)).axes x
    rw [freed] at let_go
    refine let_go.imp_right fun ⟨owned, released⟩ => ⟨?_, released⟩
    rw [owned]
    decide

end Acting

end Sys2Proof.Machine
end

section
/-! PROOFS. O33: an entry into FAULT (R89). -/

namespace Sys2Proof.Machine

/-- R89: an axis in FAULT. -/
theorem AxisRun.faulted_eq (cause : FaultCause) (r : AxisRun) : r.faulted cause = { r with
    state := .fault, faultCause := cause, owner := .none, goal := none, jog := none, jogTimer := none
    settle := 0, vPrev := 0, stallTimer := none } := rfl

namespace Acting

variable (c : Ctx) (x : Axis) (cause : FaultCause) (a : Acting)

/-- R89: the change of the one axis record, with its immediate zero. -/
def faultMoved : Acting :=
  a.shift c (immediateZeros c fun y => decide (y = x)) fun y r => if y = x then r.faulted cause else r

/-- R89: the client that owned the axis is told. -/
def faultTold : Acting :=
  match (a.axes.get x).owner with
  | .search => (a.faultMoved c x cause).failSearch c .axisFault
  | .safety => (a.faultMoved c x cause).faultSequence c
  | .none | .aim | .jog => a.faultMoved c x cause

theorem enterFault_eq : a.enterFault c x cause = (a.faultTold c x cause).faultEvent c x cause := by
  unfold enterFault faultTold faultMoved
  cases (a.axes.get x).owner <;> rfl

theorem faultMoved_self : (a.faultMoved c x cause).axes.get x = (a.axes.get x).faulted cause := by
  unfold faultMoved
  rw [shift_get, if_pos rfl]

theorem faultMoved_other {y : Axis} (h : y ≠ x) : (a.faultMoved c x cause).axes.get y = a.axes.get y := by
  unfold faultMoved
  rw [shift_get, if_neg h]

theorem faultMoved_search : (a.faultMoved c x cause).search = a.search := shift_search _ _ _ _

theorem faultMoved_seq : (a.faultMoved c x cause).seq = a.seq := shift_seq _ _ _ _

variable {c x cause a}

/-- R124: the search that owned the axis fails. -/
theorem faultTold_search (ho : (a.axes.get x).owner = .search) (hr : a.search.state.running = true) :
    a.faultTold c x cause = (a.faultMoved c x cause).endSearch c .failed .axisFault .failed := by
  unfold faultTold
  rw [ho]
  exact failSearch_running c .axisFault (by rwa [faultMoved_search])

/-- R134, R137: the sequence that owned the axis ends. -/
theorem faultTold_sequence (ho : (a.axes.get x).owner = .safety) (hs : a.seq.state ≠ .idle) :
    a.faultTold c x cause = (a.faultMoved c x cause).endSequence c .failed .axisFault .release := by
  unfold faultTold
  rw [ho]
  exact if_pos (by rw [faultMoved_seq]; exact SequenceState.running_iff.2 hs)

/-- R89: with no client that runs nobody is told. -/
theorem faultTold_nobody (h₁ : ¬((a.axes.get x).owner = .search ∧ a.search.state.running = true))
    (h₂ : ¬((a.axes.get x).owner = .safety ∧ a.seq.state ≠ .idle)) :
    a.faultTold c x cause = a.faultMoved c x cause := by
  unfold faultTold
  split
  next ho => exact failSearch_not_running c .axisFault fun hr => h₁ ⟨ho, by rwa [faultMoved_search] at hr⟩
  next ho =>
    refine if_neg fun hr => h₂ ⟨ho, ?_⟩
    rw [faultMoved_seq] at hr
    exact SequenceState.running_iff.1 hr
  all_goals rfl

variable (c x cause a)

/-- R89: the axis in FAULT has no owner, and no release changes it. -/
theorem faultTold_self : (a.faultTold c x cause).axes.get x = (a.axes.get x).faulted cause := by
  have moved := a.faultMoved_self c x cause
  by_cases h₁ : (a.axes.get x).owner = .search ∧ a.search.state.running = true
  · rw [faultTold_search h₁.1 h₁.2, endSearch_get, moved]
    exact if_neg nofun
  by_cases h₂ : (a.axes.get x).owner = .safety ∧ a.seq.state ≠ .idle
  · rw [faultTold_sequence h₂.1 h₂.2]
    refine ((endSequence_get_cases c .failed .axisFault _ x).resolve_right fun h => h.1 ?_).trans moved
    rw [moved]
    rfl
  · rw [faultTold_nobody h₁ h₂, moved]

/-- R89: the other axes are as they were, or released. -/
theorem faultTold_other {y : Axis} (hy : y ≠ x) :
    (a.faultTold c x cause).axes.get y = a.axes.get y
      ∨ (a.faultTold c x cause).axes.get y = (a.axes.get y).released := by
  have moved := a.faultMoved_other c x cause hy
  by_cases h₁ : (a.axes.get x).owner = .search ∧ a.search.state.running = true
  · rw [faultTold_search h₁.1 h₁.2, endSearch_get, moved]
    exact (ite_eq_or_eq _ _ _).symm
  by_cases h₂ : (a.axes.get x).owner = .safety ∧ a.seq.state ≠ .idle
  · rw [faultTold_sequence h₂.1 h₂.2, ← moved]
    exact (endSequence_get_cases c .failed .axisFault _ y).imp_right And.right
  · exact .inl (by rw [faultTold_nobody h₁ h₂, moved])

/-- R89: but where the end of a LOWER may let a suspended search go on, the client releases what it still owns, and no
other axis changes. -/
theorem faultTold_other_quiet {y : Axis} (hy : y ≠ x) (hq : ¬(a.seq.state = .lowering ∧ a.search.state = .suspended)) :
    (a.faultTold c x cause).axes.get y =
      if (((a.axes.get x).owner = .search ∧ a.search.state.running = true) ∧ (a.axes.get y).owner = .search)
        ∨ (((a.axes.get x).owner = .safety ∧ a.seq.state ≠ .idle) ∧ (a.axes.get y).owner = .safety)
      then (a.axes.get y).released else a.axes.get y := by
  have moved := a.faultMoved_other c x cause hy
  by_cases h₁ : (a.axes.get x).owner = .search ∧ a.search.state.running = true
  · rw [faultTold_search h₁.1 h₁.2, endSearch_get, moved]
    refine if_congr ⟨fun h => .inl ⟨h₁, h⟩, fun h => h.elim And.right fun h' => ?_⟩ rfl rfl
    exact nomatch h₁.1.symm.trans h'.1.1
  by_cases h₂ : (a.axes.get x).owner = .safety ∧ a.seq.state ≠ .idle
  · have quiet : ¬((a.faultMoved c x cause).seq.state = .lowering ∧ (a.faultMoved c x cause).search.state = .suspended) := by
      rwa [faultMoved_seq, faultMoved_search]
    rw [faultTold_sequence h₂.1 h₂.2, endSequence_get_quiet c _ _ _ quiet, moved]
    exact if_congr ⟨fun h => .inr ⟨h₂, h⟩, fun h => h.elim (fun h' => absurd h'.1 h₁) And.right⟩ rfl rfl
  · rw [faultTold_nobody h₁ h₂, moved, if_neg]
    exact fun h => h.elim (fun h' => h₁ h'.1) fun h' => h₂ h'.1

theorem faultTold_onlyC : (a.faultMoved c x cause).out.OnlyC (a.faultTold c x cause).out := by
  unfold faultTold
  split
  · exact (Coasts.failSearch _ _).out
  · exact (Coasts.ite (.endSequence _ _ _ _)).out
  all_goals exact .refl _

theorem faultTold_urgentFrames (h : a.out.UrgentFrames) : (a.faultTold c x cause).out.UrgentFrames := by
  have moved : (a.faultMoved c x cause).out.UrgentFrames := by
    unfold faultMoved
    exact shift_urgentFrames h _ _
  unfold faultTold
  split
  · exact (Reach.failSearch (c := c) _ _).urgentFrames moved
  · exact (Reach.faultSequence (c := c) _).urgentFrames moved
  all_goals exact moved

/-- R89: the AXIS_FAULT event. -/
theorem enterFault_raise : a.enterFault c x cause = (a.faultTold c x cause).raise c .axisFault
    [BitVec.ofInt 16 (axisCode x), BitVec.ofInt 16 (faultCauseCode cause),
      if cause = .driveFault then (a.axes.get x).driveCause else 0,
      BitVec.ofInt 16 (if (c.sen.image[positionOf x]).state = .fresh then c.pos x else -32768)] := by
  rw [enterFault_eq]
  unfold faultEvent
  rw [faultTold_self, Ctx.posWord_eq]
  rfl

end Acting

/-- Settles O33. -/
theorem faultEntryAsStated : Obligations.FaultEntryAsStated := by
  intro c a x cause old b new searchFails sequenceFails
  have raised : b = (a.faultTold c x cause).raise c .axisFault _ := a.enterFault_raise c x cause
  have axes : b.axes = (a.faultTold c x cause).axes := (congrArg Acting.axes raised).trans (Acting.raise_axes _ _ _ _)
  have search : b.search = (a.faultTold c x cause).search := (congrArg Acting.search raised).trans (Acting.raise_search _ _ _ _)
  have seq : b.seq = (a.faultTold c x cause).seq := (congrArg Acting.seq raised).trans (Acting.raise_seq _ _ _ _)
  have record : new = old.faulted cause := (congrArg (PerAxis.get · x) axes).trans (a.faultTold_self c x cause)
  rw [AxisRun.faulted_eq] at record
  refine ⟨by rw [record], by rw [record], by rw [record], by rw [record], by rw [record], by rw [record], by rw [record],
    by rw [record], by rw [record], record, fun y hy hq => ?_, fun y hy => ?_, fun h => ?_, fun h => ?_, fun h₁ h₂ => ?_,
    ?_, fun hu => ?_, fun hm hd => ?_⟩
  · rw [axes]
    exact a.faultTold_other_quiet c x cause hy hq
  · rw [axes]
    exact a.faultTold_other c x cause hy
  · rw [search, Acting.faultTold_search h.1 h.2, Acting.endSearch_search]
    exact ⟨rfl, rfl⟩
  · rw [seq, Acting.faultTold_sequence h.1 h.2, Acting.endSequence_seq, Acting.faultMoved_seq]
    exact ⟨rfl, rfl, rfl, rfl⟩
  · rw [search, seq, Acting.faultTold_nobody h₁ h₂]
    exact ⟨a.faultMoved_search c x cause, a.faultMoved_seq c x cause⟩
  · intro zeroed d
    have moved : zeroed = a.faultMoved c x cause := Acting.shift_congr fun y => by
      by_cases hy : y = x
      · rw [if_pos hy, if_pos hy, record, hy]
        rfl
      · rw [if_neg hy, if_neg hy]
    have told : d = a.faultTold c x cause := by
      by_cases h₁ : searchFails
      · refine (if_pos h₁).trans ?_
        rw [moved, Acting.faultTold_search h₁.1 h₁.2]
        exact Acting.failSearch_running c .axisFault (by rw [Acting.faultMoved_search]; exact h₁.2)
      refine (if_neg h₁).trans ?_
      by_cases h₂ : sequenceFails
      · refine (if_pos h₂).trans ?_
        rw [moved, Acting.faultTold_sequence h₂.1 h₂.2]
      · refine (if_neg h₂).trans ?_
        rw [moved, Acting.faultTold_nobody h₁ h₂]
    rw [told]
    exact ⟨axes.symm, search.symm, seq.symm, raised⟩
  · exact raised ▸ Acting.raise_seen (a.faultTold_urgentFrames c x cause (.of_countP hu)) .axisFault _
  · have zero : (a.faultMoved c x cause).out.sends (demandFrame c.tab x 0) x :=
      Acting.sends_zero (decide_eq_true rfl) hm hd _ a
    rw [raised]
    exact Output.sends_of_onlyC ((a.faultTold_onlyC c x cause).trans (.raise _ _ _ _ _)) zero

end Sys2Proof.Machine
end

section
/-! PROOFS. O32: the jog, stall and drive age timers at their expiries (R82, R85, R88). -/

namespace Sys2Proof.Machine

namespace Acting

variable {c : Ctx} {x : Axis} {a : Acting}

theorem enterFault_self (c : Ctx) (x : Axis) (cause : FaultCause) (a : Acting) :
    (a.enterFault c x cause).axes.get x = (a.axes.get x).faulted cause := by
  rw [enterFault_raise, raise_axes, faultTold_self]

theorem shiftOne_axes (c : Ctx) (x : Axis) (f : AxisRun → AxisRun) (a : Acting) :
    (a.shiftOne c x f).axes = a.axes.set x (f (a.axes.get x)) := by
  unfold shiftOne shiftQuiet
  rw [shift_axes]
  cases x <;> rfl

theorem tune_get_self (x : Axis) (f : AxisRun → AxisRun) (a : Acting) :
    (a.tune x f).axes.get x = f (a.axes.get x) := PerAxis.get_set_self _ _ _

/-- R89: an axis already in FAULT keeps its cause. -/
theorem faultOnce_fault (h : (a.axes.get x).state = .fault) (cause : FaultCause) : a.faultOnce c x cause = a := if_pos h

theorem faultOnce_enters (h : (a.axes.get x).state ≠ .fault) (cause : FaultCause) :
    a.faultOnce c x cause = a.enterFault c x cause := if_neg h

theorem jogExpired_stops (h : (a.axes.get x).state = .jogging) (ht : (a.axes.get x).jogTimer.isSome = true) :
    a.jogExpired c x = a.shiftOne c x AxisRun.stoppedBy := if_pos ⟨h, ht⟩

/-- R88: an axis that has moved less than the stall distance is faulted. -/
theorem stallExpired_stalled {from_ : Int} (ht : (a.axes.get x).stallTimer.isSome = true)
    (hp : (a.axes.get x).stallPos = some from_) (hd : (c.pos x - from_).natAbs < (c.tab.guard.get x).stallDist) :
    a.stallExpired c x = a.faultOnce c x .stall := by
  unfold stallExpired
  dsimp only
  rw [hp, if_neg (by simpa [Option.isSome_iff_ne_none] using ht)]
  exact if_pos hd

theorem stallExpired_moved {from_ : Int} (ht : (a.axes.get x).stallTimer.isSome = true)
    (hp : (a.axes.get x).stallPos = some from_) (hd : (c.tab.guard.get x).stallDist ≤ (c.pos x - from_).natAbs) :
    a.stallExpired c x = a.tune x fun r =>
      { r with stallTimer := some (c.tab.guard.get x).stallWait, stallPos := some (c.pos x) } := by
  unfold stallExpired
  dsimp only
  rw [hp, if_neg (by simpa [Option.isSome_iff_ne_none] using ht)]
  exact if_neg (Nat.not_lt.2 hd)

theorem driveAgeExpired_runs {left : Nat} (h : (a.axes.get x).driveAge = .running left) :
    a.driveAgeExpired c x = (a.tune x fun r => { r with driveAge := .expired }).faultOnce c x .driveSilent := by
  unfold driveAgeExpired
  rw [h]

end Acting

/-- Settles O32. -/
theorem axisTimersAtExpiry : Obligations.AxisTimersAtExpiry := by
  intro s x live r g p
  have run : ∀ (i : Instr) (f : Ctx → Acting → Acting), exec i s = s.run (fun q => q.acting f) →
      exec i s = .next (s.settled { s.part with act := f s.part.ctx s.part.act }) := fun i f hi =>
    hi.trans (State.run_live live _)
  have jog := run (.jogTimerExpiry x) (fun c a => a.jogExpired c x) rfl
  have stall := run (.stallTimerExpiry x) (fun c a => a.stallExpired c x) rfl
  have silence := run (.driveAgeExpiry x) (fun c a => a.driveAgeExpired c x) rfl
  refine ⟨fun hs ht => ?_, fun from_ ht hp => ⟨fun hd hs => ?_, fun hd => ?_⟩, fun left hl => ⟨fun hs => ?_, fun hs => ?_⟩⟩
  · rw [Acting.jogExpired_stops hs ht] at jog
    exact ⟨_, jog, rfl, Acting.shiftOne_axes _ x _ _, Acting.shiftOne_search _ x _ _, Acting.shiftOne_seq _ x _ _,
      Acting.shiftOne_driveQueue _ x AxisRun.stoppedBy_vPrev _⟩
  · rw [Acting.stallExpired_stalled ht hp hd, Acting.faultOnce_enters hs] at stall
    refine ⟨_, stall, rfl, ?_⟩
    rw [Acting.enterFault_self]
    exact ⟨rfl, rfl, rfl, rfl, rfl⟩
  · rw [Acting.stallExpired_moved ht hp hd] at stall
    exact stall
  · intro silent
    have same : (silent.axes.get x).state ≠ .fault := by
      rw [PerAxis.get_set_self]
      exact hs
    rw [Acting.driveAgeExpired_runs hl, show (s.part.act.tune x fun r => { r with driveAge := .expired }) = silent from rfl,
      Acting.faultOnce_enters same] at silence
    refine ⟨_, silence, rfl, ?_⟩
    rw [Acting.enterFault_self, PerAxis.get_set_self]
    exact ⟨rfl, rfl, rfl, rfl, rfl, rfl⟩
  · have same : ((s.part.act.tune x fun r => { r with driveAge := .expired }).axes.get x).state = .fault := by
      rw [Acting.tune_get_self]
      exact hs
    rw [Acting.driveAgeExpired_runs hl, Acting.faultOnce_fault same] at silence
    exact silence

end Sys2Proof.Machine
end

section
/-! PROOFS. O28: DRIVE_STATUS (R84 to R86, R175). -/

namespace Sys2Proof.Machine

theorem PerAxis.set_set {α : Type} (t : PerAxis α) (x : Axis) (v w : α) : (t.set x v).set x w = t.set x w := by
  cases x <;> rfl

namespace Acting

/-- R84, R85: the axis record with the drive state and the cause word that its drive has told. -/
def drivenBy (c : Ctx) (x : Axis) (d : DriveState) (w : Word) (a : Acting) : Acting :=
  { a with axes := a.axes.set x { a.axes.get x with
      drive := d, driveCause := w
      driveAge := if c.sen.mode = .operating then .running ((c.tab.guard.get x).ageLimit * 10000)
        else (a.axes.get x).driveAge } }

/-- R86: does the drive state fault the axis? -/
def DriveFaults (c : Ctx) (x : Axis) (d : DriveState) (a : Acting) : Prop :=
  c.sen.mode = .operating ∧ (a.axes.get x).state ≠ .fault
    ∧ (d = .fault ∨ (d = .notReady ∧ ((a.axes.get x).state = .moving ∨ (a.axes.get x).state = .jogging
      ∨ (a.axes.get x).state = .atGoal)))

variable {c : Ctx} {x : Axis} {d : DriveState} {w : Word} {a : Acting}

theorem drivenBy_self : (a.drivenBy c x d w).axes.get x = { a.axes.get x with
    drive := d, driveCause := w
    driveAge := if c.sen.mode = .operating then .running ((c.tab.guard.get x).ageLimit * 10000)
      else (a.axes.get x).driveAge } := PerAxis.get_set_self _ _ _

theorem drivenBy_other {y : Axis} (h : y ≠ x) : (a.drivenBy c x d w).axes.get y = a.axes.get y :=
  PerAxis.get_set_of_ne _ h _

/-- R178: in UNCONFIGURED no axis state changes. -/
theorem driveReport_unconfigured (h : c.sen.mode ≠ .operating) : a.driveReport c x d w = a.drivenBy c x d w := by
  have off : ¬c.operating = true := fun h' => h (Ctx.operating_iff.1 h')
  unfold driveReport drivenBy
  rw [if_neg h]
  exact if_neg off

theorem driveReport_operating (h : c.sen.mode = .operating) :
    a.driveReport c x d w = (a.drivenBy c x d w).driveActs c x := by
  have on : c.operating = true := Ctx.operating_iff.2 h
  have twice : (Acting.tune x (fun r => { r with driveAge := .running (c.tab.guard.get x).ageTime })
      (a.tune x fun r => { r with drive := d, driveCause := w })) = a.drivenBy c x d w := by
    unfold tune drivenBy
    rw [if_pos h, PerAxis.get_set_self, PerAxis.set_set]
    rfl
  unfold driveReport
  exact (if_pos on).trans (congrArg (Acting.driveActs c x) twice)

/-- R86: a drive in FAULT faults its axis, and one that drops out faults an axis that moves or holds its goal. -/
theorem driveReport_faults (h : a.DriveFaults c x d) : a.driveReport c x d w =
    (a.drivenBy c x d w).enterFault c x (if d = .fault then .driveFault else .driveDropped) := by
  obtain ⟨on, not_fault, why⟩ := h
  have drive : ((a.drivenBy c x d w).axes.get x).drive = d := by rw [drivenBy_self]
  have state : ((a.drivenBy c x d w).axes.get x).state = (a.axes.get x).state := by rw [drivenBy_self]
  rw [driveReport_operating on]
  unfold driveActs
  rcases why with rfl | ⟨rfl, moves⟩
  · dsimp only
    rw [drive]
    exact faultOnce_enters (state ▸ not_fault) _
  · dsimp only
    rw [drive, state]
    rcases moves with hs | hs | hs <;> rw [hs] <;> rfl

theorem driveReport_quiet (h : ¬a.DriveFaults c x d) : a.driveReport c x d w = a.drivenBy c x d w := by
  by_cases on : c.sen.mode = .operating
  · have drive : ((a.drivenBy c x d w).axes.get x).drive = d := by rw [drivenBy_self]
    have state : ((a.drivenBy c x d w).axes.get x).state = (a.axes.get x).state := by rw [drivenBy_self]
    rw [driveReport_operating on]
    unfold driveActs
    dsimp only
    rw [drive]
    cases d with
    | ready => rfl
    | fault =>
      by_cases hs : (a.axes.get x).state = .fault
      · exact faultOnce_fault (state.trans hs) _
      · exact absurd ⟨on, hs, .inl rfl⟩ h
    | notReady =>
      have still : ¬((a.axes.get x).state = .moving ∨ (a.axes.get x).state = .jogging
          ∨ (a.axes.get x).state = .atGoal) := fun moves =>
        h ⟨on, by rcases moves with hs | hs | hs <;> rw [hs] <;> decide, .inr ⟨rfl, moves⟩⟩
      rw [state]
      dsimp only
      split
      next hs => exact absurd (.inl hs) still
      next hs => exact absurd (.inr (.inl hs)) still
      next hs => exact absurd (.inr (.inr hs)) still
      all_goals rfl
  · exact driveReport_unconfigured on

theorem enterFault_other (c : Ctx) (cause : FaultCause) (a : Acting) {y : Axis} (h : y ≠ x) :
    (a.enterFault c x cause).axes.get y = a.axes.get y
      ∨ (a.enterFault c x cause).axes.get y = (a.axes.get y).released := by
  rw [enterFault_raise, raise_axes]
  exact a.faultTold_other c x cause h

end Acting

/-! ### The frame -/

/-- R175: a copy of a consumed frame changes nothing but the output side. -/
theorem Part.consume_out (port : Port) (f : Frame) (p : Part) :
    p.consume port f = { p.take f with act := { (p.take f).act with out := (p.consume port f).act.out } } := by
  unfold Part.consume
  dsimp only
  split <;> rfl

theorem Part.consume_unmirrored {port : Port} {f : Frame} {p : Part} (h : (p.tab.node f.src).mirror = false) :
    p.consume port f = p.take f :=
  if_neg (by simp [Part.mirrors, h])

theorem Part.take_driveStatus {h : Header} {st w : Word} {d : DriveState} {x : Axis} {p : Part}
    (hd : driveStateOf st.toInt = some d) (hx : p.tab.axisOfDrive h.src = some x) :
    p.take (frameOf h .driveStatus [st, w]) = p.acting fun c a => a.driveReport c x d w := by
  have taken : p.take (frameOf h .driveStatus [st, w]) = p.takeDriveStatus h.src [st, w] := rfl
  rw [taken]
  unfold Part.takeDriveStatus
  rw [hx]
  dsimp only
  rw [hd]

theorem Part.take_driveStatus_unserved {h : Header} {ws : List Word} {p : Part} (hx : p.tab.axisOfDrive h.src = none) :
    p.take (frameOf h .driveStatus ws) = p := by
  have taken : p.take (frameOf h .driveStatus ws) = p.takeDriveStatus h.src ws := rfl
  rw [taken]
  unfold Part.takeDriveStatus
  rw [hx]
  split
  next h => cases h
  · rfl

/-- Settles O28. -/
theorem driveStatusSetsDrive : Obligations.DriveStatusSetsDrive := by
  intro s h st cause d hc hd e taken
  set p : Part := e.consume h.port (frameOf h .driveStatus [st, cause]) with hp
  have copied : p = { taken with act := { taken.act with out := p.act.out } } := Part.consume_out _ _ _
  have axes : p.act.axes = taken.act.axes := by rw [copied]
  have served : ∀ x, s.part.tab.axisOfDrive h.src = some x →
      taken = e.acting fun c a => a.driveReport c x d cause := fun x hx => Part.take_driveStatus hd hx
  have frame : taken.tab = s.part.tab ∧ taken.sen = e.sen := by
    cases hx : s.part.tab.axisOfDrive h.src with
    | none => rw [show taken = e from Part.take_driveStatus_unserved hx]; exact ⟨rfl, rfl⟩
    | some x => rw [served x hx]; exact ⟨rfl, rfl⟩
  refine ⟨p, State.run_consumed hc, (congrArg Part.tab copied).trans frame.1, (congrArg Part.sen copied).trans frame.2,
    copied, fun hm => Part.consume_unmirrored (p := e) (f := frameOf h .driveStatus [st, cause]) hm, fun hx => ?_, fun x hx => ?_⟩
  · have unserved : taken = e := Part.take_driveStatus_unserved hx
    exact ⟨by rw [axes, unserved]; rfl, unserved⟩
  · intro old new faults told
    have report : taken = { e with act := e.act.driveReport e.ctx x d cause } := served x hx
    have told_eq : told = e.act.drivenBy e.ctx x d cause := rfl
    have new_eq : new = (e.act.driveReport e.ctx x d cause).axes.get x :=
      congrArg (PerAxis.get · x) (axes.trans (congrArg (fun q : Part => q.act.axes) report))
    have other : ∀ y, p.act.axes.get y = (e.act.driveReport e.ctx x d cause).axes.get y := fun y =>
      congrArg (PerAxis.get · y) (axes.trans (congrArg (fun q : Part => q.act.axes) report))
    by_cases hf : faults
    · have entered := Acting.driveReport_faults (w := cause) (c := e.ctx) (a := e.act) hf
      have record : new = AxisRun.faulted (if d = .fault then .driveFault else .driveDropped)
          ((e.act.drivenBy e.ctx x d cause).axes.get x) := by
        rw [new_eq, entered, Acting.enterFault_self]
      rw [Acting.drivenBy_self] at record
      refine ⟨by rw [record]; rfl, by rw [record]; rfl, by rw [record]; rfl,
        fun _ => ⟨by rw [record]; rfl, by rw [record]; rfl, by rw [record]; rfl, by rw [record]; rfl, by rw [record]; rfl,
          by rw [report, entered, told_eq], fun y hy => ?_⟩, fun hn => absurd hf hn⟩
      have freed := Acting.enterFault_other e.ctx (if d = .fault then .driveFault else .driveDropped)
        (e.act.drivenBy e.ctx x d cause) hy
      rw [Acting.drivenBy_other hy] at freed
      rw [other, entered]
      exact freed
    · have kept := Acting.driveReport_quiet (w := cause) (c := e.ctx) (a := e.act) hf
      rw [kept, Acting.drivenBy_self] at new_eq
      refine ⟨by rw [new_eq], by rw [new_eq], by rw [new_eq]; rfl, fun hy => absurd hy hf,
        fun _ => ⟨by rw [report, kept, told_eq], by rw [new_eq]; rfl, by rw [new_eq]; rfl, by rw [new_eq]; rfl, by rw [new_eq]; rfl,
          by rw [new_eq]; rfl, fun y hy => ?_⟩⟩
      rw [other, kept, Acting.drivenBy_other hy]
      rfl

end Sys2Proof.Machine
end

section
/-! SUPPORT. Suspension of the search, one equation for each state it may be in (R121, R122). -/

namespace Sys2Proof.Machine

namespace Acting

variable {a : Acting} (c : Ctx) (f : SuspendCauses → SuspendCauses)

theorem enterCause_eq : a.enterCause c f = { a with search := a.search.enterCause c.tab.search f } := rfl

theorem enterCause_probing (h : a.search.state = .probing) : a.enterCause c f = { a with search := { a.search with
    state := .suspended, from_ := .probing, timer := some (c.tab.search.suspendLimit * 100000), buffer := [], ring := []
    causes := f a.search.causes } } := by
  rw [enterCause_eq]
  unfold SearchRun.enterCause
  rw [h]
  rfl

theorem enterCause_peaked (h : a.search.state = .peaked) : a.enterCause c f = { a with search := { a.search with
    state := .suspended, from_ := .peaked, timer := some (c.tab.search.suspendLimit * 100000), buffer := [], ring := []
    causes := f a.search.causes } } := by
  rw [enterCause_eq]
  unfold SearchRun.enterCause
  rw [h]
  rfl

theorem enterCause_suspended (h : a.search.state = .suspended) :
    a.enterCause c f = { a with search := { a.search with causes := f a.search.causes } } := by
  rw [enterCause_eq]
  unfold SearchRun.enterCause
  split
  case h_3 => rfl
  all_goals next h' => exact nomatch h.symm.trans h'

variable {c f}

theorem leaveCause_kept (h : a.search.state ≠ .suspended ∨ f a.search.causes = a.search.causes) : a.leaveCause c f = a :=
  if_neg fun hs => h.elim (fun hn => hn hs.1) fun he => hs.2 he

theorem leaveCause_left (hs : a.search.state = .suspended) (hf : f a.search.causes ≠ a.search.causes) :
    a.leaveCause c f =
      let b := a.searching fun s => { s with causes := f s.causes }
      if f a.search.causes = .empty then b.resumeSearch c else b := if_pos ⟨hs, hf⟩

theorem leaveCause_suspended (hs : a.search.state = .suspended) (hf : f a.search.causes ≠ a.search.causes)
    (he : f a.search.causes ≠ .empty) :
    a.leaveCause c f = { a with search := { a.search with causes := f a.search.causes } } :=
  (leaveCause_left hs hf).trans (if_neg he)

theorem leaveCause_resumes (hs : a.search.state = .suspended) (hf : f a.search.causes ≠ a.search.causes)
    (he : f a.search.causes = .empty) :
    a.leaveCause c f = ({ a with search := { a.search with causes := .empty } } : Acting).resumeSearch c := by
  rw [leaveCause_left hs hf]
  dsimp only
  rw [if_pos he, ← he]
  rfl

theorem resumeSearch_peaked (h : a.search.from_ = .peaked) : a.resumeSearch c =
    { a with search := { a.search with state := .peaked, timer := none, ring := [] } } := by
  unfold resumeSearch
  rw [h]
  rfl

theorem resumeSearch_probing (h : a.search.from_ = .probing) : a.resumeSearch c =
    ({ a with search := { a.search with state := .probing, timer := none, buffer := [] } } : Acting).returnCheck c := by
  unfold resumeSearch
  rw [h]
  rfl

end Acting

end Sys2Proof.Machine
end

section
/-! PROOFS. O39: the ends of the search, and what its neighbours hand to it (R91, R121 to R125). -/

namespace Sys2Proof.Machine

theorem leftGoal_iff {o n : AxisRun} : leftGoal o n = true ↔ o.state = .atGoal ∧ n.state ≠ .atGoal := by
  simp only [leftGoal, Bool.and_eq_true, decide_eq_true_eq]

theorem enteredHeld_iff {o n : AxisRun} : enteredHeld o n = true ↔ o.state ≠ .held ∧ n.state = .held := by
  simp only [enteredHeld, Bool.and_eq_true, decide_eq_true_eq]

theorem leftHeld_iff {o n : AxisRun} : leftHeld o n = true ↔ o.state = .held ∧ n.state ≠ .held := by
  simp only [leftHeld, Bool.and_eq_true, decide_eq_true_eq]

/-- R145: a command without payload is taken. -/
theorem Part.bare_nil (f : Ctx → Acting → Acting × Result) (p : Part) : p.bare [] f = p.doing f := if_neg fun h => h rfl

namespace Acting

variable {c : Ctx} {a : Acting}

theorem searchEndFrame_running (h : a.search.state.running = true) :
    a.searchEndFrame c = (a.endSearch c .idle .none .ended, .done) := if_pos h

theorem searchEndFrame_not_running (h : ¬a.search.state.running = true) : a.searchEndFrame c = (a, .noChange) := if_neg h

theorem suspendExpired_timed (ht : a.search.timer.isSome = true) : a.suspendExpired c = a.failSearch c .suspendLimit :=
  if_pos ht

/-- R125: the SEARCH_END event of a search that ends. -/
theorem endSearch_raise (c : Ctx) (st : SearchState) (reason : FailureReason) (outcome : Ending) (a : Acting) :
    a.endSearch c st reason outcome = ((a.searching (·.ended st reason)).release c .search).raise c .searchEnd
      [BitVec.ofInt 16 (endingCode outcome), BitVec.ofInt 16 (failureReasonCode reason),
        BitVec.ofInt 16 (a.search.bestLevel.getD (-32768)), BitVec.ofNat 16 a.search.count] := by
  have kept : ((a.searching (·.ended st reason)).release c .search).search = a.search.ended st reason :=
    release_search c .search _
  unfold endSearch searchEvent
  dsimp only
  rw [kept]
  rfl

theorem searchSeesPermit_lost {old : BitVec 7} (h : hasDirection old .track = true)
    (h' : hasDirection c.sen.permit .track = false) :
    a.searchSeesPermit c old = a.enterCause c fun k => { k with trackLost := true } := by
  unfold searchSeesPermit
  rw [h, h']
  rfl

theorem searchSeesPermit_regained {old : BitVec 7} (h : hasDirection old .track = false)
    (h' : hasDirection c.sen.permit .track = true) :
    a.searchSeesPermit c old = a.leaveCause c fun k => { k with trackLost := false } := by
  unfold searchSeesPermit
  rw [h, h']
  rfl

theorem searchSeesPermit_same {old : BitVec 7} (h : hasDirection old .track = hasDirection c.sen.permit .track) :
    a.searchSeesPermit c old = a := by
  unfold searchSeesPermit
  rw [h]
  cases hasDirection c.sen.permit .track <;> rfl

end Acting

/-- Settles O39. -/
theorem searchEndsAsStated : Obligations.SearchEndsAsStated := by
  refine ⟨fun s h hc => ?_, fun c st reason outcome a => ⟨⟨_, rfl, ?_, fun x => ?_, ?_, ?_, ?_⟩, ?_⟩, fun c old a => ?_,
    fun s live timed suspended => ?_, fun c f a => ?_, fun c old a =>
    ⟨Acting.searchSeesPermit_lost, Acting.searchSeesPermit_regained, Acting.searchSeesPermit_same⟩⟩
  · have answered : ∀ {a : Acting} {r : Result}, (s.entered h).act.searchEndFrame (s.entered h).ctx = (a, r) →
        exec (.searchEnd h []) s = .next (s.answered h .searchEnd r { s.entered h with act := a }) := fun hq =>
      exec_answered rfl hc nofun nofun (congrArg (answer (frameOf h .searchEnd []))
        ((Part.bare_nil _ _).trans (Part.doing_eq hq)))
    refine ⟨fun ended => answered (Acting.searchEndFrame_not_running fun hr => ?_), fun runs =>
      ⟨_, answered (Acting.searchEndFrame_running (SearchState.running_iff.2 runs)), rfl, ?_⟩⟩
    · have runs : s.part.act.search.state.running = true := hr
      rcases ended with he | he <;> rw [he] at runs <;> cases runs
    · exact (s.entered h).act.endSearch_searchOver (s.entered h).ctx .idle .none .ended
  · exact Acting.release_search c .search _
  · exact Acting.release_get c .search (a.searching (·.ended st reason)) x
  · exact Acting.release_seq c .search _
  · exact (Acting.Coasts.release .search (a.searching (·.ended st reason))).out.driveQueue
  · exact a.endSearch_raise c st reason outcome
  · simp only [← SearchState.running_iff]
    exact ⟨Acting.abortSearch_running c, Acting.failSearch_running c reason,
      fun h => ⟨Acting.abortSearch_not_running c h, Acting.failSearch_not_running c reason h⟩⟩
  · unfold Acting.searchSeesAxes
    simp only [Bool.and_eq_true, Bool.or_eq_true, leftGoal_iff, enteredHeld_iff, leftHeld_iff]
    rfl
  · have runs : s.part.act.search.state.running = true := SearchState.running_iff.2 (.inr (.inr suspended))
    refine ⟨_, ?_, rfl, s.part.act.endSearch_searchOver s.part.ctx .failed .suspendLimit .failed⟩
    have run : exec .suspendTimerExpiry s = s.run fun p => p.acting Acting.suspendExpired := rfl
    have failed : s.part.act.suspendExpired s.part.ctx = s.part.act.endSearch s.part.ctx .failed .suspendLimit .failed :=
      (Acting.suspendExpired_timed timed).trans (Acting.failSearch_running _ _ runs)
    rw [run, State.run_live live, ← failed]
    rfl
  · refine ⟨Acting.enterCause_probing c f, Acting.enterCause_peaked c f, Acting.enterCause_suspended c f, fun h => ?_,
      Acting.leaveCause_kept, fun hs hf => ⟨Acting.leaveCause_suspended hs hf, fun he hp => ?_, fun he hp => ?_⟩⟩
    · refine Acting.enterCause_ended ?_ c f
      rcases h with h | h <;> rw [h] <;> rfl
    · rw [Acting.leaveCause_resumes hs hf he]
      exact Acting.resumeSearch_peaked hp
    · rw [Acting.leaveCause_resumes hs hf he]
      exact Acting.resumeSearch_probing hp

end Sys2Proof.Machine
end

section
/-! SUPPORT. The record a goal claim leaves (R68), and a start of the search (R110, R111). -/

namespace Sys2Proof.Machine

/-- R68: what a granted goal claim leaves of an axis record. -/
theorem AxisRun.claimed_spec (m : MotionRecord) (o : Owner) (g : Int) (r : AxisRun) :
    (r.claimed m o g).owner = o ∧ (r.claimed m o g).goal = some (m.clampGoal g) ∧ (r.claimed m o g).vPrev = r.vPrev
      ∧ (r.claimed m o g).state = if r.state = .atGoal ∧ r.goal = some (m.clampGoal g) then .atGoal else .moving := by
  by_cases h : r.state = .atGoal ∧ r.goal = some (m.clampGoal g)
  · rw [AxisRun.claimed_atGoal h, if_pos h]
    exact ⟨rfl, h.2, rfl, h.1⟩
  · rw [AxisRun.claimed_moving h, if_neg h]
    exact ⟨rfl, rfl, rfl, rfl⟩

theorem Sensed.fresh_eq_false {s : Sensed} {q : Fin 24} : s.fresh q = false ↔ (s.image[q]).state ≠ .fresh :=
  decide_eq_false_iff_not

namespace Acting

variable {c : Ctx} {n : Node} {a : Acting}

theorem dishStill_iff : a.dishStill = true ↔ a.axes.pan.state = .atGoal ∧ a.axes.tilt.state = .atGoal := by
  simp only [dishStill, Bool.and_eq_true, decide_eq_true_eq]

/-- R110: the checks of a start, in their order. -/
theorem searchChecks_eq (c : Ctx) (n : Node) (a : Acting) : searchChecks c n a =
    if c.sen.mode = .unconfigured then some .notStarted
    else if a.search.state = .probing ∨ a.search.state = .peaked ∨ a.search.state = .suspended then some .noChange
    else if c.tab.mayMove n .pan = false ∨ c.tab.mayMove n .tilt = false then some .noRights
    else if (c.sen.image[(8 : Fin 24)]).state ≠ .fresh then some .noLevel
    else if hasDirection c.sen.permit .track = false then some .inhibited
    else (claimChecks c .search isDish a).or
      (if (a.axes.pan.state = .atGoal ∧ a.axes.tilt.state = .atGoal)
        ∨ (a.axes.pan.state = .stopped ∧ a.axes.tilt.state = .stopped) then none else some .busyOwner) := by
  unfold searchChecks
  simp only [Bool.not_eq_true', Ctx.operating_eq_false, SearchState.running_iff, Bool.and_eq_false_iff,
    Sensed.fresh_eq_false, Bool.or_eq_true, Bool.and_eq_true, decide_eq_true_eq, dishStill_iff]
  cases claimChecks c .search isDish a <;> rfl

/-! ### A start that has passed its checks -/

/-- R111, step 1: the goals of a start. -/
def startCentre (c : Ctx) (a : Acting) : PanTilt := ⟨startGoal c a .pan, startGoal c a .tilt⟩

/-- R111: the claims of a start, and the runtime it sets. -/
def searchBegun (c : Ctx) (a : Acting) : Acting :=
  (a.claim c .search (a.startCentre c).goals).searching (·.begun c.tab.search (a.startCentre c))

theorem beginSearch_eq (c : Ctx) (a : Acting) : a.beginSearch c = if a.seq.state = .lowering then
    (a.searchBegun c).enterCause c fun k => { k with lowerRunning := true } else a.searchBegun c := by
  have kept : (a.claim c .search (a.startCentre c).goals).seq = a.seq := a.claim_seq c .search _
  rw [← kept]
  rfl

theorem searchBegun_search (c : Ctx) (a : Acting) :
    (a.searchBegun c).search = a.search.begun c.tab.search (a.startCentre c) :=
  congrArg (·.begun c.tab.search (a.startCentre c)) (a.claim_search c .search _)

theorem searchBegun_eq (c : Ctx) (a : Acting) : a.searchBegun c = { a.claim c .search (a.startCentre c).goals with
    search := a.search.begun c.tab.search (a.startCentre c) } := by
  rw [← searchBegun_search]
  rfl

theorem beginSearch_quiet (h : a.seq.state ≠ .lowering) : a.beginSearch c = a.searchBegun c :=
  (beginSearch_eq c a).trans (if_neg h)

theorem beginSearch_lowering (h : a.seq.state = .lowering) :
    a.beginSearch c = (a.searchBegun c).enterCause c fun k => { k with lowerRunning := true } :=
  (beginSearch_eq c a).trans (if_pos h)

/-- R121: a search that starts while a LOWER runs is suspended at once. -/
theorem beginSearch_suspended (h : a.seq.state = .lowering) : (a.beginSearch c).search =
    { a.search.begun c.tab.search (a.startCentre c) with
      state := .suspended, from_ := .probing, timer := some (c.tab.search.suspendLimit * 100000)
      causes := { SuspendCauses.empty with lowerRunning := true } } := by
  have probing : (a.searchBegun c).search.state = .probing := by rw [searchBegun_search]; rfl
  rw [beginSearch_lowering h, enterCause_probing c _ probing, searchBegun_search]
  rfl

theorem beginSearch_axes (c : Ctx) (a : Acting) :
    (a.beginSearch c).axes = (a.claim c .search (a.startCentre c).goals).axes := by
  rw [beginSearch_eq]
  split <;> rfl

theorem beginSearch_seq (c : Ctx) (a : Acting) : (a.beginSearch c).seq = a.seq := by
  have kept : (a.claim c .search (a.startCentre c).goals).seq = a.seq := a.claim_seq c .search _
  rw [beginSearch_eq]
  split <;> exact kept

theorem beginSearch_mast (c : Ctx) (a : Acting) : (a.beginSearch c).axes.mast = a.axes.mast := by
  rw [beginSearch_axes]
  exact a.claim_none c .search _ (x := .mast) rfl

theorem beginSearch_dish (c : Ctx) (a : Acting) {x : Axis} (h : x ≠ .mast) : (a.beginSearch c).axes.get x =
    (a.axes.get x).claimed (c.tab.motion.get x) .search (startGoal c a x) := by
  rw [beginSearch_axes]
  cases x with
  | mast => exact absurd rfl h
  | pan => exact a.claim_some c .search _ (x := .pan) rfl
  | tilt => exact a.claim_some c .search _ (x := .tilt) rfl

/-! ### A start asked for by a node -/

theorem startSearch_refused {r : Result} (h : searchChecks c n (a.searching SearchRun.forgiven) = some r) :
    a.startSearch c n = (a.searching SearchRun.forgiven, r) := by
  unfold startSearch
  dsimp only
  rw [h]

theorem startSearch_granted (h : searchChecks c n (a.searching SearchRun.forgiven) = none) :
    a.startSearch c n = ((a.searching SearchRun.forgiven).beginSearch c, .done) := by
  unfold startSearch
  dsimp only
  rw [h]

end Acting

/-- R68: a clamped goal is clamped. -/
theorem MotionRecord.clampGoal_clampGoal (m : MotionRecord) (g : Int) : m.clampGoal (m.clampGoal g) = m.clampGoal g := by
  unfold clampGoal clampTo
  omega

end Sys2Proof.Machine
end

section
/-! PROOFS. O38: SEARCH_START (R110, R111). -/

namespace Sys2Proof.Machine

/-- Settles O38. -/
theorem searchStartAsStated : Obligations.SearchStartAsStated := by
  refine ⟨fun c n a => ?_, fun c a => ⟨fun h => ?_, fun h => ?_⟩, fun s h hc => ?_⟩
  · exact Acting.searchChecks_eq c n a
  · exact (Acting.beginSearch_quiet h).trans (a.searchBegun_eq c)
  · exact (Acting.beginSearch_lowering h).trans (congrArg _ (a.searchBegun_eq c))
  intro e c idle before goalOf lowering
  have answered : ∀ {a : Acting} {r : Result}, e.act.startSearch c h.src = (a, r) →
      exec (.searchStart h []) s = .next (s.answered h .searchStart r { e with act := a }) := fun hq =>
    exec_answered rfl hc nofun nofun (congrArg (answer (frameOf h .searchStart []))
      ((Part.bare_nil _ _).trans (Part.doing_eq hq)))
  refine ⟨fun r hr => answered (Acting.startSearch_refused hr), fun hg =>
    ⟨before.beginSearch c, answered (Acting.startSearch_granted hg), rfl, before.beginSearch_mast c, fun x hx => ?_, ?_⟩⟩
  · rw [before.beginSearch_dish c hx]
    have spec := (before.axes.get x).claimed_spec (c.tab.motion.get x) .search (startGoal c before x)
    have clamped : (c.tab.motion.get x).clampGoal (startGoal c before x) = goalOf x :=
      MotionRecord.clampGoal_clampGoal _ _
    rw [clamped] at spec
    exact spec
  have queue : (before.beginSearch c).out.driveQueue = s.part.act.out.driveQueue :=
    (Acting.Coasts.beginSearch before).out.driveQueue
  have seq : (before.beginSearch c).seq = s.part.act.seq := before.beginSearch_seq c
  rw [seq, queue]
  by_cases low : lowering
  · rw [Acting.beginSearch_suspended (a := before) low]
    exact ⟨rfl, rfl, rfl, rfl, rfl, rfl, rfl, rfl, rfl, rfl, rfl, rfl, rfl, rfl, rfl, rfl, rfl, fun h' => absurd low h',
      fun _ => ⟨rfl, rfl, rfl, rfl⟩, rfl, rfl⟩
  · rw [Acting.beginSearch_quiet (a := before) low, Acting.searchBegun_search]
    exact ⟨rfl, rfl, rfl, rfl, rfl, rfl, rfl, rfl, rfl, rfl, rfl, rfl, rfl, rfl, rfl, rfl, rfl, fun _ => ⟨rfl, rfl⟩,
      fun h' => absurd h' low, rfl, rfl⟩

end Sys2Proof.Machine
end

section
/-! SUPPORT. A granted AIM claim (R68), the rights of its sender (R155) and the clamping of its goals. -/

namespace Sys2Proof.Machine

/-- R155: the sender lacks the rights on an axis named. -/
theorem mayMoveAll_eq_false {t : Tables} {n : Node} {named : Axis → Bool} : mayMoveAll t n named = false ↔
    (named .mast = true ∧ t.mayMove n .mast = false) ∨ (named .pan = true ∧ t.mayMove n .pan = false)
      ∨ (named .tilt = true ∧ t.mayMove n .tilt = false) := by
  unfold mayMoveAll axisList
  simp only [List.all_cons, List.all_nil, Bool.and_true, Bool.and_eq_false_iff, Bool.or_eq_false_iff,
    Bool.not_eq_false']

theorem anyClamped_iff {t : Tables} {goal : Axis → Option Int} :
    anyClamped t goal = true ↔ ∃ x g, goal x = some g ∧ (t.motion.get x).clampGoal g ≠ g := by
  unfold anyClamped
  rw [List.any_eq_true]
  refine exists_congr fun x => ?_
  rw [and_iff_right (mem_axisList x)]
  cases goal x with
  | none => simp
  | some g => simp

namespace Acting

variable (c : Ctx) (goal : Axis → Option Int) (a : Acting)

/-- R68, R123: pan or tilt is claimed that the search owns. -/
abbrev AimTakes : Prop :=
  ((goal .pan).isSome = true ∧ a.axes.pan.owner = .search) ∨ ((goal .tilt).isSome = true ∧ a.axes.tilt.owner = .search)

theorem claimAim_eq : a.claimAim c goal =
    if AimTakes goal a then (a.claim c .aim goal).abortSearch c else a.claim c .aim goal := by
  unfold claimAim takesDish AimTakes
  simp only [Bool.or_eq_true, Bool.and_eq_true, decide_eq_true_eq]

/-- R68: a granted AIM claim, as a whole; what becomes of pointing is its client's. -/
theorem claimAim_aimed (p : PointingRun) : Aimed c goal a { a.claimAim c goal with pointing := p } := by
  set d : Acting := a.claim c .aim goal with hd
  have search : d.search = a.search := a.claim_search c .aim goal
  have queue : d.out.driveQueue = a.out.driveQueue := (Coasts.claim .aim goal a).out.driveQueue
  have claim : a.claimAim c goal = if AimTakes goal a then d.abortSearch c else d := claimAim_eq c goal a
  rw [claim]
  refine ⟨rfl, fun x hx => ?_, fun x g hg => ?_, fun h => ?_, fun h => ?_, ?_, ?_⟩
  · have kept : d.axes.get x = a.axes.get x := a.claim_none c .aim goal hx
    dsimp only
    rw [abortIf_get, kept, search]
  · have spec := (a.axes.get x).claimed_spec (c.tab.motion.get x) .aim g
    rw [← a.claim_some c .aim goal hg, ← hd] at spec
    have other : ¬(d.axes.get x).owner = .search := fun h => nomatch spec.1.symm.trans h
    dsimp only
    rw [abortIf_get, if_neg fun h => other h.2]
    exact spec
  · exact abortIf_idle _ c d (search ▸ h)
  · exact (abortIf_search _ c d (search ▸ h)).trans search
  · exact (abortIf_seq _ c d).trans (a.claim_seq c .aim goal)
  · exact (abortIf_driveQueue _ c d).trans queue

theorem claimAim_sameAim : a.SameAim (a.claimAim c goal) := by
  have claimed : a.SameAim (a.claim c .aim goal) := by
    unfold claim shiftQuiet
    exact .shift c _ _ a
  rw [claimAim_eq]
  split
  · exact claimed.trans (.abortSearch _)
  · exact claimed

end Acting

end Sys2Proof.Machine
end

section
/-! PROOFS. O37: GOTO (R104). -/

namespace Sys2Proof.Machine

theorem anyNamed_eq_false {goal : Axis → Option Int} : (axisList.any fun x => (goal x).isSome) = false ↔
    goal .mast = none ∧ goal .pan = none ∧ goal .tilt = none := by
  simp [axisList]

theorem gotoChecks_eq (c : Ctx) (n : Node) (goal : Axis → Option Int) (a : Acting) : gotoChecks c n goal a =
    if goal .mast = none ∧ goal .pan = none ∧ goal .tilt = none then some .badValue
    else if c.sen.mode = .unconfigured then some .notStarted
    else if ((goal .mast).isSome = true ∧ c.tab.mayMove n .mast = false)
        ∨ ((goal .pan).isSome = true ∧ c.tab.mayMove n .pan = false)
        ∨ ((goal .tilt).isSome = true ∧ c.tab.mayMove n .tilt = false) then some .noRights
    else claimChecks c .aim (fun x => (goal x).isSome) a := by
  unfold gotoChecks
  simp only [Bool.not_eq_true', Ctx.operating_eq_false, anyNamed_eq_false, mayMoveAll_eq_false]

theorem presentOf_eq (i : Int) : presentOf i = if i = -32768 then none else some i := rfl

namespace Acting

variable {c : Ctx} {n : Node} {mast pan tilt : Word} {a : Acting}

theorem takeGoto_refused {r : Result} (h : gotoChecks c n (gotoGoals mast pan tilt) a = some r) :
    a.takeGoto c n [mast, pan, tilt] = a.reply c n .goto r [] := by
  unfold takeGoto
  dsimp only
  rw [h]

theorem takeGoto_granted (h : gotoChecks c n (gotoGoals mast pan tilt) a = none) :
    a.takeGoto c n [mast, pan, tilt] = a.acceptGoto c n (gotoGoals mast pan tilt) := by
  unfold takeGoto
  dsimp only
  rw [h]

/-- R104: pointing after a GOTO keeps the last preset and the snapshot. -/
theorem SameAim.unpended {b : Acting} (h : a.SameAim b) :
    ({ b.pointing with pending := none } : PointingRun) = { a.pointing with pending := none } := by
  dsimp only
  rw [h.lastPreset, h.snapshot]

end Acting

/-- Settles O37. -/
theorem gotoAcceptedOrRefused : Obligations.GotoAcceptedOrRefused := by
  refine ⟨gotoChecks_eq, fun s h mast pan tilt hc => ?_⟩
  intro e c goal
  have goals : goal = gotoGoals mast pan tilt := by
    funext x
    cases x <;> rfl
  have answered : ∀ {a : Acting} {r : Result}, e.act.takeGoto c h.src [mast, pan, tilt] = a.reply c h.src .goto r [] →
      exec (.goto h [mast, pan, tilt]) s = .next (s.answered h .goto r { e with act := a }) := fun hq =>
    exec_answered rfl hc nofun nofun (congrArg (fun a => ({ e with act := a } : Part)) hq)
  rw [goals]
  refine ⟨fun r hr => answered (Acting.takeGoto_refused hr), fun hg => ⟨_,
    if anyClamped c.tab (gotoGoals mast pan tilt) then .clamped else .done, answered (Acting.takeGoto_granted hg),
    ite_eq_or_eq _ _ _, Iff.trans ?_ anyClamped_iff, (e.act.claimAim_sameAim c _).unpended, e.act.claimAim_aimed c _ _⟩⟩
  by_cases clamped : anyClamped c.tab (gotoGoals mast pan tilt) = true <;> simp [clamped]

end Sys2Proof.Machine
end

section
/-! PROOFS. O36: AIM, and the search-after (R99 to R103). -/

namespace Sys2Proof.Machine

/-! ### The checks of an AIM (R99) -/

theorem MotionRecord.reaches_eq_false {m : MotionRecord} {p : Int} :
    m.reaches p = false ↔ p < m.softMin ∨ m.softMax < p := by
  simp only [reaches, Bool.and_eq_false_iff, decide_eq_false_iff_not, Int.not_le]

theorem Ctx.posFresh_eq_false {c : Ctx} {x : Axis} :
    c.posFresh x = false ↔ (c.sen.image[positionOf x]).state ≠ .fresh := decide_eq_false_iff_not

/-- R100: the pan goal of a bearing, or none where no candidate is kept. -/
theorem aimGoals_pan (c : Ctx) {r : PresetRecord} {bearing : Int} (h : r.bearing = some bearing) :
    aimGoals c r .pan = aimPan c bearing := by
  unfold aimGoals
  rw [h]
  rfl

theorem aimGoals_pan_none (c : Ctx) {r : PresetRecord} (h : r.bearing = none) : aimGoals c r .pan = none := by
  unfold aimGoals
  rw [h]
  rfl

/-- R99, step 7: the bearing has no pan goal. -/
theorem aimPan_outOfTravel (c : Ctx) (r : PresetRecord) :
    (r.bearing.isSome && (aimGoals c r .pan).isNone) = r.bearing.any fun b => decide (aimPan c b = none) := by
  cases h : r.bearing with
  | none => rfl
  | some bearing =>
    rw [aimGoals_pan c h, Option.any_some]
    cases aimPan c bearing <;> simp

/-- R99: the checks of an AIM, in their order. -/
theorem aimChecks_eq (c : Ctx) (n : Node) (r : PresetRecord) (a : Acting) : aimChecks c n r a =
    if c.sen.mode = .unconfigured then some .notStarted
    else if r.present = false then some .emptyPreset
    else if (r.moves .mast = true ∧ c.tab.mayMove n .mast = false) ∨ (r.moves .pan = true ∧ c.tab.mayMove n .pan = false)
        ∨ (r.moves .tilt = true ∧ c.tab.mayMove n .tilt = false) then some .noRights
    else if r.bearing.isSome = true ∧ (c.sen.image[(3 : Fin 24)]).state ≠ .fresh then some .noHeading
    else if r.bearing.isSome = true ∧ (c.sen.image[positionOf .pan]).state ≠ .fresh then some .noPosition
    else if (r.bearing.any fun b => decide (aimPan c b = none)) = true then some .outOfTravel
    else if (r.elevation.any fun e =>
        decide (e < c.tab.motion.tilt.softMin ∨ c.tab.motion.tilt.softMax < e)) = true then some .outOfTravel
    else claimChecks c .aim r.moves a := by
  have tilt : (fun e => !c.tab.motion.tilt.reaches e) =
      fun e => decide (e < c.tab.motion.tilt.softMin ∨ c.tab.motion.tilt.softMax < e) := by
    funext e
    rw [Bool.eq_iff_iff, Bool.not_eq_true', MotionRecord.reaches_eq_false, decide_eq_true_iff]
  unfold aimChecks
  rw [aimPan_outOfTravel, tilt]
  simp only [Bool.not_eq_true', Ctx.operating_eq_false, mayMoveAll_eq_false, Bool.and_eq_true, Sensed.fresh_eq_false,
    Ctx.posFresh_eq_false]

/-! ### The preset number (R147) -/

theorem finIn15_eq_some {w : Word} {n : Fin 16} : finIn 15 w = some n ↔ w.toInt = n.val := by
  have small : (n.val : Int) ≤ 32767 := by
    have := n.isLt
    omega
  rw [finIn_eq_some (by decide), toInt_eq_iff, natWord_eq_intWord]
  exact ⟨fun h => ⟨h, by omega, small⟩, fun h => h.1⟩

/-! ### The search-after (R103) -/

/-- R110: no check refuses with DONE. -/
theorem claimCheck_ne_done (c : Ctx) (o : Owner) (x : Axis) (r : AxisRun) : claimCheck c o x r ≠ some .done := by
  rw [claimCheck_eq]
  intro h
  repeat' split at h
  all_goals cases h

theorem claimChecks_ne_done (c : Ctx) (o : Owner) (named : Axis → Bool) (a : Acting) :
    claimChecks c o named a ≠ some .done := by
  intro h
  obtain ⟨x, -, hx⟩ := List.exists_of_findSome?_eq_some h
  split at hx
  · exact claimCheck_ne_done c o x _ hx
  · cases hx

theorem searchChecks_ne_done (c : Ctx) (n : Node) (a : Acting) : searchChecks c n a ≠ some .done := by
  unfold searchChecks
  intro h
  repeat' split at h
  case h_1 hr => exact claimChecks_ne_done c .search isDish a (hr.trans h)
  all_goals cases h

namespace Acting

/-- R103: pan and tilt stand AT_GOAL with owner AIM. -/
def AimStands (a : Acting) : Prop :=
  a.axes.pan.state = .atGoal ∧ a.axes.tilt.state = .atGoal ∧ a.axes.pan.owner = .aim ∧ a.axes.tilt.owner = .aim

/-- R103, R110: the acting side that a search-after asks: it no longer pends, and a FAILED search is forgiven. -/
def searchAsked (a : Acting) : Acting :=
  ({ a with pointing := { a.pointing with pending := none } } : Acting).searching SearchRun.forgiven

variable {c : Ctx} {n : Node} {a : Acting}

theorem aimStands_iff : (a.dishStill && decide (a.axes.pan.owner = .aim) && decide (a.axes.tilt.owner = .aim)) = true ↔
    a.AimStands := by
  unfold AimStands
  simp only [Bool.and_eq_true, decide_eq_true_eq, dishStill_iff, and_assoc]

theorem searchAfter_none (h : a.pointing.pending = none) : a.searchAfter c = a := by
  unfold searchAfter
  rw [h]

theorem searchAfter_waits (h : a.pointing.pending = some n) (hr : ¬a.AimStands) : a.searchAfter c = a := by
  unfold searchAfter
  rw [h]
  exact if_neg fun hs => hr (aimStands_iff.1 hs)

/-- R103: the outcome of a search-after whose start has this result. -/
def afterStart (c : Ctx) (a : Acting) : Result → Acting
  | .done => a
  | .noChange => a
  | refusal => a.searchEvent c .refused (resultCode refusal) none

theorem searchAfter_asks (h : a.pointing.pending = some n) (hr : a.AimStands) {b : Acting} {r : Result}
    (hs : ({ a with pointing := { a.pointing with pending := none } } : Acting).startSearch c n = (b, r)) :
    a.searchAfter c = b.afterStart c r := by
  unfold searchAfter
  rw [h]
  dsimp only
  rw [if_pos (aimStands_iff.2 hr), hs]
  cases r <;> rfl

theorem afterStart_refused {r : Result} (h : r ≠ .done) (h' : r ≠ .noChange) (c : Ctx) (a : Acting) :
    a.afterStart c r = a.raise c .searchEnd [4, BitVec.ofNat 16 (resultCode r), 0x8000, BitVec.ofNat 16 a.search.count] := by
  have event : a.afterStart c r = a.searchEvent c .refused (resultCode r) none := by
    unfold afterStart
    split
    · exact absurd rfl h
    · exact absurd rfl h'
    · rfl
  rw [event, ← BitVec.ofInt_natCast]
  rfl

theorem searchAsked_count (a : Acting) : a.searchAsked.search.count = a.search.count := by
  unfold searchAsked searching SearchRun.forgiven
  dsimp only
  split <;> rfl

theorem searchAfter_begins (h : a.pointing.pending = some n) (hr : a.AimStands)
    (hs : searchChecks c n a.searchAsked = none) : a.searchAfter c = a.searchAsked.beginSearch c :=
  searchAfter_asks h hr (startSearch_granted hs)

theorem searchAfter_noChange (h : a.pointing.pending = some n) (hr : a.AimStands)
    (hs : searchChecks c n a.searchAsked = some .noChange) : a.searchAfter c = a.searchAsked :=
  searchAfter_asks h hr (startSearch_refused hs)

theorem searchAfter_refused (h : a.pointing.pending = some n) (hr : a.AimStands) {r : Result}
    (hs : searchChecks c n a.searchAsked = some r) (hn : r ≠ .noChange) :
    a.searchAfter c = a.searchAsked.raise c .searchEnd
      [4, BitVec.ofNat 16 (resultCode r), 0x8000, BitVec.ofNat 16 a.search.count] := by
  have not_done : r ≠ .done := fun hd => searchChecks_ne_done c n a.searchAsked (hd ▸ hs)
  rw [searchAfter_asks h hr (startSearch_refused hs), ← a.searchAsked_count]
  exact afterStart_refused not_done hn c _

/-! ### The frame -/

variable {w : Word} {i : Fin 16}

theorem takeAim_refused (hw : finIn 15 w = some i) {r : Result} (h : aimChecks c n c.tab.presets[i] a = some r) :
    a.takeAim c n [w] = a.reply c n .aim r [] := by
  unfold takeAim
  dsimp only
  rw [hw]
  dsimp only
  rw [h]

theorem takeAim_granted (hw : finIn 15 w = some i) (h : aimChecks c n c.tab.presets[i] a = none) :
    a.takeAim c n [w] = a.acceptAim c n i c.tab.presets[i] := by
  unfold takeAim
  dsimp only
  rw [hw]
  dsimp only
  rw [h]

end Acting

theorem Part.take_aim (h : Header) (ws : List Word) (p : Part) :
    p.take (frameOf h .aim ws) = { p with act := p.act.takeAim p.ctx h.src ws } := rfl

theorem exec_aim {s : State} {h : Header} {ws : List Word} (hc : s.part.consumes h .aim ws) : exec (.aim h ws) s =
    .next (s.settled { s.entered h with act := (s.entered h).act.takeAim (s.entered h).ctx h.src ws }) := by
  have taken : exec (.aim h ws) s = .next (s.settled ((s.entered h).take (frameOf h .aim ws))) :=
    exec_taken (c := .aim h ws) rfl hc nofun nofun
  rw [taken, Part.take_aim]

/-- Settles O36. -/
theorem aimAcceptedOrRefused : Obligations.AimAcceptedOrRefused := by
  refine ⟨fun c n r a => ?_, fun s h w hc hw => ?_, fun w => ⟨fun hw => ?_, fun n => finIn15_eq_some⟩, fun c a => ?_,
    fun c rate f a => ?_, fun c r => ⟨rfl, rfl, aimGoals_pan_none c, fun _ => aimGoals_pan c⟩,
    fun t goal => anyClamped_iff, fun s h w n hc hn => ?_⟩
  · exact aimChecks_eq c n r a
  · refine exec_answered rfl hc nofun nofun (Part.take_malformed (k := .aim) (fun v hv => ?_) h _)
    cases hv
    exact hw
  · exact finIn_outside hw
  · exact ⟨Acting.searchAfter_none, fun n h => ⟨Acting.searchAfter_waits h, Acting.searchAfter_begins h,
      Acting.searchAfter_noChange h, fun hr _ hs => Acting.searchAfter_refused h hr hs⟩⟩
  · intro new
    have watched : (a.shift c rate f).pointing = a.pointing.watch (a.shift c rate f).axes := by
      rw [Acting.shift_pointing, Acting.shift_axes]
    exact watched
  · intro e c r goal
    refine ⟨fun result hr => ?_, fun hg => ?_⟩
    · rw [exec_aim hc, Acting.takeAim_refused hn hr]
      rfl
    · refine ⟨{ e.act.claimAim c goal with pointing := ⟨some n, _, _⟩ }, ?_, rfl, rfl, rfl, e.act.claimAim_aimed c goal _⟩
      rw [exec_aim hc, Acting.takeAim_granted hn hg]
      rfl

end Sys2Proof.Machine
end

section
/-! PROOFS. O35: the site angle, and the pan goal that faces the site (R100). -/

namespace Sys2Proof.Machine

/-! ### The site angle (R100, step 1) -/

theorem siteAngle_nonneg (bearing heading declination : Int) : 0 ≤ siteAngle bearing heading declination :=
  Int.emod_nonneg _ (by decide)

theorem siteAngle_le (bearing heading declination : Int) : siteAngle bearing heading declination ≤ 35999 :=
  Int.le_of_lt_add_one (Int.emod_lt_of_pos _ (by decide))

/-- Whole turns alone bring the angle into 0..35999: as many are taken away as 36000 goes into it. -/
theorem siteAngle_eq_add_turns (bearing heading declination : Int) :
    ∃ k : Int, siteAngle bearing heading declination = bearing - (heading + declination) + 36000 * k := by
  refine ⟨-((bearing - (heading + declination)) / 36000), ?_⟩
  rw [Int.mul_neg]
  exact Int.emod_def _ _

/-! ### The candidates (R100, step 2) -/

/-- R100, step 2: a position that faces the site and lies within the soft limits. -/
def MotionRecord.Keeps (m : MotionRecord) (angle g : Int) : Prop :=
  (g = angle ∨ g = angle - 36000) ∧ m.softMin ≤ g ∧ g ≤ m.softMax

section
variable {m : MotionRecord} {p angle g : Int}

theorem MotionRecord.reaches_iff : m.reaches p = true ↔ m.softMin ≤ p ∧ p ≤ m.softMax := by
  simp only [reaches, Bool.and_eq_true, decide_eq_true_iff]

theorem MotionRecord.keeps_iff : m.Keeps angle g ↔ (g = angle ∨ g = angle - 36000) ∧ m.reaches g = true :=
  and_congr_right fun _ => reaches_iff.symm

/-! ### The choice (R100, steps 3 and 4) -/

theorem panChoice_both (h : m.reaches angle = true) (h' : m.reaches (angle - 36000) = true) :
    panChoice m p angle =
      some (if (angle - p).natAbs ≤ (angle - 36000 - p).natAbs then angle else angle - 36000) := by
  simp only [panChoice, h, h']

theorem panChoice_angle (h : m.reaches angle = true) (h' : m.reaches (angle - 36000) = false) :
    panChoice m p angle = some angle := by
  simp only [panChoice, h, h']

theorem panChoice_turnedBack (h : m.reaches angle = false) (h' : m.reaches (angle - 36000) = true) :
    panChoice m p angle = some (angle - 36000) := by
  simp only [panChoice, h, h']

theorem panChoice_neither (h : m.reaches angle = false) (h' : m.reaches (angle - 36000) = false) :
    panChoice m p angle = none := by
  simp only [panChoice, h, h']

/-- What a pan goal is: a candidate that is kept, and with both kept A where it is at least as near as A - 36000,
and A - 36000 where that is the nearer. -/
theorem panChoice_cases (h : panChoice m p angle = some g) :
    (g = angle ∧ m.reaches angle = true
      ∧ (m.reaches (angle - 36000) = true → (angle - p).natAbs ≤ (angle - 36000 - p).natAbs))
    ∨ (g = angle - 36000 ∧ m.reaches (angle - 36000) = true
      ∧ (m.reaches angle = true → (angle - 36000 - p).natAbs < (angle - p).natAbs)) := by
  cases ha : m.reaches angle <;> cases hb : m.reaches (angle - 36000)
  case false.false => rw [panChoice_neither ha hb] at h; cases h
  case false.true => rw [panChoice_turnedBack ha hb] at h; cases h; exact .inr ⟨rfl, rfl, nofun⟩
  case true.false => rw [panChoice_angle ha hb] at h; cases h; exact .inl ⟨rfl, rfl, nofun⟩
  case true.true =>
    rw [panChoice_both ha hb] at h
    cases h
    split
    next near => exact .inl ⟨rfl, rfl, fun _ => near⟩
    next far => exact .inr ⟨rfl, rfl, fun _ => Nat.lt_of_not_le far⟩

theorem panChoice_kept (h : panChoice m p angle = some g) : m.Keeps angle g := by
  obtain ⟨rfl, reached, -⟩ | ⟨rfl, reached, -⟩ := panChoice_cases h
  · exact MotionRecord.keeps_iff.2 ⟨.inl rfl, reached⟩
  · exact MotionRecord.keeps_iff.2 ⟨.inr rfl, reached⟩

theorem panChoice_eq_none_iff : panChoice m p angle = none ↔ ∀ g, ¬m.Keeps angle g := by
  constructor
  · intro refused g kept
    obtain ⟨rfl | rfl, reached⟩ := MotionRecord.keeps_iff.1 kept
    · cases hb : m.reaches (g - 36000)
      · cases refused.symm.trans (panChoice_angle reached hb)
      · cases refused.symm.trans (panChoice_both reached hb)
    · cases ha : m.reaches angle
      · cases refused.symm.trans (panChoice_turnedBack ha reached)
      · cases refused.symm.trans (panChoice_both ha reached)
  · intro noneKept
    exact Option.eq_none_iff_forall_ne_some.2 fun g chosen => noneKept g (panChoice_kept chosen)

/-- No kept position is nearer than the pan goal, and where A is kept and as near, A is the goal. -/
theorem panChoice_nearest (h : panChoice m p angle = some g) {g' : Int} (kept : m.Keeps angle g') :
    (g - p).natAbs ≤ (g' - p).natAbs ∧ ((g - p).natAbs = (g' - p).natAbs → g' = angle → g = angle) := by
  obtain ⟨facing, reached⟩ := MotionRecord.keeps_iff.1 kept
  obtain ⟨rfl, -, asNear⟩ | ⟨rfl, -, nearer⟩ := panChoice_cases h
  · refine ⟨?_, fun _ _ => rfl⟩
    obtain rfl | rfl := facing
    · exact le_rfl
    · exact asNear reached
  · obtain rfl | rfl := facing
    · exact ⟨(nearer reached).le, fun same _ => absurd same (nearer reached).ne⟩
    · exact ⟨le_rfl, fun _ same => same⟩

end

/-- Settles O35: the site angle by its division by 36000, the pan goal by the cases of the choice. -/
theorem panGoalFacesTheSite : Obligations.PanGoalFacesTheSite :=
  ⟨fun b h d => ⟨siteAngle_nonneg b h d, siteAngle_le b h d, siteAngle_eq_add_turns b h d⟩,
    fun _ _ _ => ⟨panChoice_eq_none_iff, fun _ chosen => ⟨panChoice_kept chosen, fun _ => panChoice_nearest chosen⟩⟩⟩

end Sys2Proof.Machine
end

section
/-! SUPPORT. The probes of the search, one equation for each case of the rules that make them (R114 to R117). -/

namespace Sys2Proof.Machine

/-! ### One coordinate of a probe (R114) -/

section

variable {m : MotionRecord} {window centre : Int}

theorem clampProbe_in_window (hw : 0 ≤ window) (hlo : m.softMin ≤ centre) (hhi : centre ≤ m.softMax) (v : Int) :
    centre - window ≤ clampProbe m window centre v ∧ clampProbe m window centre v ≤ centre + window := by
  unfold clampProbe MotionRecord.clampGoal clampTo
  omega

theorem clampProbe_in_limits (hlo : m.softMin ≤ centre) (hhi : centre ≤ m.softMax) (v : Int) :
    m.softMin ≤ clampProbe m window centre v ∧ clampProbe m window centre v ≤ m.softMax := by
  unfold clampProbe MotionRecord.clampGoal clampTo
  omega

/-- A coordinate that both clamps let pass is kept. -/
theorem clampProbe_kept {v : Int} (hw : centre - window ≤ v) (hw' : v ≤ centre + window) (hm : m.softMin ≤ v)
    (hm' : v ≤ m.softMax) : clampProbe m window centre v = v := by
  unfold clampProbe MotionRecord.clampGoal clampTo
  omega

end

/-! ### The aim of a probe, and the failure step (R114, R116, R117) -/

namespace SearchRun

variable {s : SearchRun} {r : SearchRecord} {t : Tables}

theorem bestAt_of_some {best : PanTilt} (h : s.best = some best) : s.bestAt = best := by
  unfold bestAt
  rw [h]
  rfl

theorem centreAt_of_some {centre : PanTilt} (h : s.centre = some centre) : s.centreAt = centre := by
  unfold centreAt
  rw [h]
  rfl

/-- R114: a probe moves the axis of the turn alone. -/
theorem probeAim_pan {centre best : PanTilt} (hs : s.turn = .pan) (hc : s.centre = some centre)
    (hb : s.best = some best) : s.probeAim t =
    { best with pan := clampProbe t.motion.pan t.search.window centre.pan (best.pan + s.signedStep) } := by
  simp only [probeAim, hs, centreAt_of_some hc, bestAt_of_some hb]

theorem probeAim_tilt {centre best : PanTilt} (hs : s.turn = .tilt) (hc : s.centre = some centre)
    (hb : s.best = some best) : s.probeAim t =
    { best with tilt := clampProbe t.motion.tilt t.search.window centre.tilt (best.tilt + s.signedStep) } := by
  simp only [probeAim, hs, centreAt_of_some hc, bestAt_of_some hb]

/-- R116: axes without gain after a turn that ends. -/
def gainless (s : SearchRun) : Nat := if s.gain then 0 else s.noGain + 1

theorem failStep_reverses (h : s.failed = 0) : s.failStep r = ({ s with failed := 1, positive := !s.positive }, true) :=
  if_pos h

theorem failStep_turn_ends (h : s.failed ≠ 0) (hn : s.gainless < 2) : s.failStep r =
    ({ s with noGain := s.gainless, turn := s.turn.other, positive := true, failed := 0, gain := false }, true) :=
  (if_neg h).trans (if_pos hn)

theorem failStep_round_ends (h : s.failed ≠ 0) (hn : ¬s.gainless < 2) (hs : r.smin < s.step) : s.failStep r =
    ({ s with noGain := 0, step := max r.smin (s.step / 2), turn := .pan, positive := true, failed := 0,
              gain := false }, true) :=
  (if_neg h).trans ((if_neg hn).trans (if_pos hs))

theorem failStep_last_round_ends (h : s.failed ≠ 0) (hn : ¬s.gainless < 2) (hs : ¬r.smin < s.step) :
    s.failStep r = ({ s with noGain := s.gainless, failed := 0 }, false) :=
  (if_neg h).trans ((if_neg hn).trans (if_neg hs))

/-! ### The search for a probe that is not blocked (R114) -/

theorem seek_open (h : s.probeAim t ≠ s.bestAt) (n : Nat) : seek t (n + 1) s = (s, some (s.probeAim t)) := if_neg h

/-- A blocked probe after whose failure step the search goes on. -/
theorem seek_goes_on (h : s.probeAim t = s.bestAt) (hf : (s.failStep t.search).2 = true) (n : Nat) :
    seek t (n + 1) s = seek t n (s.failStep t.search).1 := by
  refine (if_pos h).trans ?_
  split
  next hq => rw [hq]
  next hq => rw [hq] at hf; cases hf

/-- A blocked probe whose failure step ends the last round. -/
theorem seek_ends (h : s.probeAim t = s.bestAt) (hf : (s.failStep t.search).2 = false) (n : Nat) :
    seek t (n + 1) s = ((s.failStep t.search).1, none) := by
  refine (if_pos h).trans ?_
  split
  next hq => rw [hq] at hf; cases hf
  next hq => rw [hq]

/-- The bound of `Acting.nextProbe` after one more failure step is large enough too. -/
theorem seek_seekBound_goes_on (h : s.probeAim t = s.bestAt) (hf : (s.failStep t.search).2 = true) :
    seek t s.seekBound s = seek t (s.failStep t.search).1.seekBound (s.failStep t.search).1 := by
  have enough := s.stepsLeft_le
  have enough' := (s.failStep t.search).1.stepsLeft_le
  have fewer := failStep_less t.search s hf
  obtain ⟨n, hn⟩ : ∃ n, s.seekBound = n + 1 := ⟨4 * s.step + 7, rfl⟩
  rw [hn, seek_goes_on h hf]
  exact seek_stable t _ _ _ (by omega) (by omega)

end SearchRun

/-! ### The next probe and the return (R114, R115, R117) -/

namespace Acting

variable {c : Ctx} {a : Acting}

theorem nextProbe_open (h : a.search.probeAim c.tab ≠ a.search.bestAt) :
    a.nextProbe c = a.makeProbe c (a.search.probeAim c.tab) := by
  have found : a.search.seek c.tab a.search.seekBound = (a.search, some (a.search.probeAim c.tab)) :=
    SearchRun.seek_open h _
  unfold nextProbe
  rw [found]

theorem nextProbe_goes_on (h : a.search.probeAim c.tab = a.search.bestAt)
    (hf : (a.search.failStep c.tab.search).2 = true) :
    a.nextProbe c = ({ a with search := (a.search.failStep c.tab.search).1 } : Acting).nextProbe c := by
  unfold nextProbe
  rw [SearchRun.seek_seekBound_goes_on h hf]

theorem nextProbe_returns (h : a.search.probeAim c.tab = a.search.bestAt)
    (hf : (a.search.failStep c.tab.search).2 = false) :
    a.nextProbe c = ({ a with search := (a.search.failStep c.tab.search).1 } : Acting).goBack c := by
  have ended : a.search.seek c.tab a.search.seekBound = ((a.search.failStep c.tab.search).1, none) :=
    SearchRun.seek_ends h hf _
  unfold nextProbe
  rw [ended]

theorem makeProbe_past_limit (h : c.tab.search.maxProbes < a.search.count + 1) (g : PanTilt) : a.makeProbe c g =
    ({ a with search := { a.search with count := a.search.count + 1 } } : Acting).failSearch c .probeLimit := if_pos h

theorem makeProbe_claims (h : ¬c.tab.search.maxProbes < a.search.count + 1) (g : PanTilt) : a.makeProbe c g =
    { ({ a with search := { a.search with count := a.search.count + 1 } } : Acting).claim c .search g.goals with
      search := { a.search with
        count := a.search.count + 1, probeGoal := some g, purpose := .probe, buffer := [] } } := by
  set b : Acting := { a with search := { a.search with count := a.search.count + 1 } } with hb
  have made : a.makeProbe c g =
      (b.claim c .search g.goals).searching fun s => { s with probeGoal := some g, purpose := .probe, buffer := [] } :=
    if_neg h
  have kept : (b.claim c .search g.goals).search = b.search := b.claim_search c .search g.goals
  rw [made]
  unfold searching
  rw [kept]

/-- R117: a search in RETURN whose pan and tilt stand AT_GOAL as its own. -/
def AtBest (a : Acting) : Prop :=
  a.search.state = .probing ∧ a.search.purpose = .returning ∧ a.axes.pan.state = .atGoal ∧ a.axes.tilt.state = .atGoal
    ∧ a.axes.pan.owner = .search ∧ a.axes.tilt.owner = .search

theorem returned_iff : a.returned = true ↔ a.AtBest := by
  unfold returned AtBest
  simp only [Bool.and_eq_true, decide_eq_true_eq, dishStill_iff, and_assoc]

theorem returnCheck_waits (h : ¬a.AtBest) : a.returnCheck c = a := if_neg fun hr => h (returned_iff.1 hr)

theorem returnCheck_peaks (h : a.AtBest) {l : Int} (hl : a.search.bestLevel = some l) (hf : c.tab.search.floor ≤ l) :
    a.returnCheck c = { a with search := { a.search with state := .peaked, peak := some l, ring := [] } } := by
  refine (if_pos (returned_iff.2 h)).trans ?_
  unfold peakOrFail
  rw [hl]
  exact if_pos hf

theorem returnCheck_no_signal (h : a.AtBest) {l : Int} (hl : a.search.bestLevel = some l)
    (hf : ¬c.tab.search.floor ≤ l) : a.returnCheck c = a.failSearch c .noSignal := by
  refine (if_pos (returned_iff.2 h)).trans ?_
  unfold peakOrFail
  rw [hl]
  exact if_neg hf

end Acting

end Sys2Proof.Machine
end

section
/-! SUPPORT. A value of RX_LEVEL, and a measurement that it completes, one equation for each case (R112, R113, R116,
R118, R119). -/

namespace Sys2Proof.Machine

/-- R118: of nine entries the oldest leaves. -/
theorem SearchRun.remember_eq (e : ProbeEntry) (s : SearchRun) : s.remember e =
    { s with history := (s.history ++ [e]).drop (s.history.length + 1 - 8) } := by
  unfold SearchRun.remember
  dsimp only
  rw [List.length_append]
  rfl

namespace Acting

variable {c : Ctx} {a : Acting} {v m : Int}

/-! ### A value of RX_LEVEL (R112, R119, R121) -/

theorem searchLevel_ended (h : a.search.state = .idle ∨ a.search.state = .failed) : a.searchLevel c v = a := by
  unfold searchLevel
  rcases h with h | h <;> rw [h]

theorem searchLevel_suspended (h : a.search.state = .suspended) :
    a.searchLevel c v = a.leaveCause c fun k => { k with levelStale := false } := by
  unfold searchLevel
  rw [h]

theorem searchLevel_probing (h : a.search.state = .probing) : a.searchLevel c v =
    if a.search.purpose ≠ .returning ∧ a.dishStill = true then a.bufferLevel c v else a := by
  unfold searchLevel
  rw [h]

theorem searchLevel_peaked (h : a.search.state = .peaked) :
    a.searchLevel c v = if a.dishStill = true then a.ringLevel c v else a := by
  unfold searchLevel
  rw [h]

theorem bufferLevel_gathers (h : ¬c.tab.search.samples ≤ a.search.buffer.length + 1) : a.bufferLevel c v =
    { a with search := { a.search with buffer := a.search.buffer ++ [v] } } :=
  if_neg (by rwa [List.length_append])

theorem bufferLevel_measures (h : c.tab.search.samples ≤ a.search.buffer.length + 1) :
    a.bufferLevel c v = a.measured c (meanLevel (a.search.buffer ++ [v])) :=
  if_pos (by rwa [List.length_append])

/-- R119: the level ring with the new value, of which the oldest leaves when it is full. -/
def ringWith (c : Ctx) (v : Int) (a : Acting) : List Int :=
  (a.search.ring ++ [v]).drop (a.search.ring.length + 1 - c.tab.search.samples)

/-- R119: a value enters the ring of a PEAKED search. -/
def ringed (c : Ctx) (v : Int) (a : Acting) : Acting :=
  { a with search := { a.search with ring := a.ringWith c v } }

/-- R119: the ring is full, and its mean has fallen below the peak level by more than the re-peak drop. -/
abbrev Drifts (c : Ctx) (v : Int) (a : Acting) : Prop :=
  (a.ringWith c v).length = c.tab.search.samples
    ∧ meanLevel (a.ringWith c v) < a.search.peak.getD 0 - c.tab.search.repeakDrop

theorem ringLevel_eq (c : Ctx) (v : Int) (a : Acting) : a.ringLevel c v =
    if a.Drifts c v then (a.ringed c v).drift c (meanLevel (a.ringWith c v)) else a.ringed c v := by
  have kept : (a.search.ring ++ [v]).drop ((a.search.ring ++ [v]).length - c.tab.search.samples) = a.ringWith c v := by
    rw [List.length_append]
    rfl
  unfold ringLevel
  dsimp only
  rw [kept]
  rfl

/-! ### A measurement (R113, R116, R118) -/

theorem measured_base (h : a.search.purpose = .base) : a.measured c m =
    ({ a with search := { a.search with buffer := [], bestLevel := some m } } : Acting).nextProbe c := by
  unfold measured
  dsimp only
  split
  · rfl
  all_goals next h' => exact nomatch h.symm.trans h'

theorem measured_probe (h : a.search.purpose = .probe) : a.measured c m =
    ({ a with search := { a.search with buffer := [] } } : Acting).judge c m := by
  unfold measured
  dsimp only
  split
  case h_2 => rfl
  all_goals next h' => exact nomatch h.symm.trans h'

section

variable {goal : PanTilt} {l : Int} (hg : a.search.probeGoal = some goal) (hl : a.search.bestLevel = some l)
include hg hl

theorem judge_accepts (h : l + c.tab.search.improve ≤ m) : a.judge c m =
    ({ a with search := { a.search.remember ⟨goal, m, true, a.search.step⟩ with
        best := some goal, bestLevel := some m, failed := 0, gain := true } } : Acting).nextProbe c := by
  unfold judge
  dsimp only
  rw [hg, hl, Option.getD_some, Option.getD_some, decide_eq_true h, if_pos rfl]

theorem judge_fails (h : ¬l + c.tab.search.improve ≤ m) {failed : SearchRun × Bool}
    (hf : (a.search.remember ⟨goal, m, false, a.search.step⟩).failStep c.tab.search = failed) : a.judge c m =
    if failed.2 = true then ({ a with search := failed.1 } : Acting).nextProbe c
    else ({ a with search := failed.1 } : Acting).goBack c := by
  unfold judge
  dsimp only
  rw [hg, hl, Option.getD_some, Option.getD_some, decide_eq_false h, if_neg Bool.false_ne_true, hf]

end

end Acting

end Sys2Proof.Machine
end

section
/-! PROOFS. O40: the probes, the failure step, the return, the measurements and the drift of a search (R112 to R120). -/

namespace Sys2Proof.Machine

/-- Settles O40. -/
theorem probesKeepTheirBounds : Obligations.ProbesKeepTheirBounds := by
  refine ⟨fun m window centre v hw hlo hhi => ?_, fun t s centre best hc hb => ?_, fun r s => ?_,
    fun c a best hb => ?_, fun c a g => ?_, fun c a => ⟨Acting.returnCheck_waits, fun l back hl => ?_⟩, fun c v a => ?_,
    fun vs => rfl, fun c m a => ⟨Acting.measured_base, fun goal l hp hg hl => ?_⟩, fun c m a => rfl⟩
  · obtain ⟨above, below⟩ := clampProbe_in_window hw hlo hhi v
    obtain ⟨above', below'⟩ := clampProbe_in_limits (window := window) hlo hhi v
    exact ⟨above, below, above', below', clampProbe_kept⟩
  · intro d
    split
    next hs => exact SearchRun.probeAim_pan hs hc hb
    next hs => exact SearchRun.probeAim_tilt hs hc hb
  · exact ⟨SearchRun.failStep_reverses, SearchRun.failStep_turn_ends,
      fun h hn hs => SearchRun.failStep_round_ends h (Nat.not_lt.2 hn) hs,
      fun h hn hs => SearchRun.failStep_last_round_ends h (Nat.not_lt.2 hn) (Nat.not_lt.2 hs)⟩
  · have at_best := SearchRun.bestAt_of_some hb
    rw [← at_best]
    exact ⟨Acting.nextProbe_open, Acting.nextProbe_goes_on, Acting.nextProbe_returns, rfl⟩
  · exact ⟨fun h => Acting.makeProbe_past_limit h g, fun h => Acting.makeProbe_claims (Nat.not_lt.2 h) g⟩
  · exact ⟨Acting.returnCheck_peaks back hl, fun hf => Acting.returnCheck_no_signal back hl (Int.not_le.2 hf)⟩
  · intro r still n ring
    refine ⟨Acting.searchLevel_ended, Acting.searchLevel_suspended, fun hs h => ?_, fun hs hp hd => ?_, fun hs hd => ?_,
      fun hs hd peak hp => ?_⟩
    · rw [Acting.searchLevel_probing hs, if_neg]
      exact fun hk => h.elim hk.1 fun moves => moves (Acting.dishStill_iff.1 hk.2)
    · rw [Acting.searchLevel_probing hs, if_pos ⟨hp, Acting.dishStill_iff.2 hd⟩]
      exact ⟨fun h => Acting.bufferLevel_gathers (Nat.not_le.2 h), Acting.bufferLevel_measures⟩
    · rw [Acting.searchLevel_peaked hs, if_neg fun hk => hd (Acting.dishStill_iff.1 hk)]
    · have drifts : a.Drifts c v ↔ ring.length = n ∧ meanLevel ring < peak - c.tab.search.repeakDrop := by
        unfold Acting.Drifts
        rw [hp]
        rfl
      rw [Acting.searchLevel_peaked hs, if_pos (Acting.dishStill_iff.2 hd), Acting.ringLevel_eq]
      exact ⟨fun full low => if_pos (drifts.2 ⟨full, low⟩), fun h => if_neg fun hk =>
        h.elim (fun part => part (drifts.1 hk).1) (Int.not_le.2 (drifts.1 hk).2)⟩
  · intro entry kept failed
    set b : Acting := { a with search := { a.search with buffer := [] } } with hb
    have judged : a.measured c m = b.judge c m := Acting.measured_probe hp
    have remembered : ∀ accepted, b.search.remember (entry accepted) =
        { a.search with buffer := [], history := kept accepted } := fun accepted => SearchRun.remember_eq _ _
    rw [judged]
    refine ⟨fun reached => ?_, fun short => ?_⟩
    · rw [Acting.judge_accepts (a := b) hg hl reached]
      exact congrArg (fun s : SearchRun => ({ a with search := { s with
        best := some goal, bestLevel := some m, failed := 0, gain := true } } : Acting).nextProbe c) (remembered true)
    · have failure := congrArg (·.failStep c.tab.search) (remembered false)
      rw [Acting.judge_fails (a := b) hg hl (Int.not_le.2 short) failure]
      exact ⟨fun hf => if_pos hf, fun hf => if_neg (by rw [hf]; decide)⟩

end Sys2Proof.Machine
end

section
/-! SUPPORT. The phases of a STOW, one equation for each outcome of their claims (R130), and what the sequencer sees of
the axes in each of its states. -/

namespace Sys2Proof.Machine

namespace Acting

variable {c : Ctx} {a : Acting} {st : SequenceState} {x : Axis}

/-- R130: the sequencer at the entry into a phase, with the phase timer started anew. -/
def phaseEntered (c : Ctx) (st : SequenceState) (a : Acting) : Acting :=
  { a with seq := { a.seq with state := st, timer := some (c.tab.pointing.phaseTimeout * 1000000) } }

/-- R130: the phase with its axis claimed for its stow position. -/
def phaseBegun (c : Ctx) (st : SequenceState) (x : Axis) (a : Acting) : Acting :=
  (a.phaseEntered c st).claim c .safety (goalFor x (c.tab.guard.get x).stowPos)

theorem phaseBegun_self (c : Ctx) (st : SequenceState) (x : Axis) (a : Acting) : (a.phaseBegun c st x).axes.get x =
    (a.axes.get x).claimed (c.tab.motion.get x) .safety (c.tab.guard.get x).stowPos :=
  claim_some c .safety _ (a.phaseEntered c st) (if_pos rfl)

theorem phaseBegun_other (c : Ctx) (st : SequenceState) {x y : Axis} (h : y ≠ x) (a : Acting) :
    (a.phaseBegun c st x).axes.get y = a.axes.get y :=
  claim_none c .safety _ (a.phaseEntered c st) (if_neg h)

theorem phaseBegun_seq (c : Ctx) (st : SequenceState) (x : Axis) (a : Acting) : (a.phaseBegun c st x).seq =
    { a.seq with state := st, timer := some (c.tab.pointing.phaseTimeout * 1000000) } :=
  claim_seq c .safety _ (a.phaseEntered c st)

theorem phaseBegun_search (c : Ctx) (st : SequenceState) (x : Axis) (a : Acting) :
    (a.phaseBegun c st x).search = a.search := claim_search c .safety _ (a.phaseEntered c st)

theorem enterPhase_refused (h : claimCheck c .safety x (a.axes.get x) ≠ none) (done : Acting → Acting) :
    a.enterPhase c st x done = (a.phaseEntered c st).endSequence c .failed .driveNotReady .release :=
  if_pos (Option.isSome_iff_ne_none.2 h)

theorem enterPhase_granted (h : claimCheck c .safety x (a.axes.get x) = none) (done : Acting → Acting) :
    a.enterPhase c st x done =
      if ((a.phaseBegun c st x).axes.get x).state = .atGoal then done (a.phaseBegun c st x) else a.phaseBegun c st x :=
  if_neg (Option.not_isSome_iff_eq_none.2 h)

/-! ### What the sequencer sees of the axes (R91, R130) -/

/-- R130: the axis has entered AT_GOAL as SAFETY's. -/
abbrev Arrives (old : PerAxis AxisRun) (x : Axis) (a : Acting) : Prop :=
  (old.get x).state ≠ .atGoal ∧ (a.axes.get x).state = .atGoal ∧ (a.axes.get x).owner = .safety

theorem sequencerSeesAxes_phase (h : a.seq.state.phaseAxis = some x) (old : PerAxis AxisRun) :
    a.sequencerSeesAxes c old = if a.Arrives old x then a.phaseComplete c else a := by
  unfold sequencerSeesAxes
  rw [h]

theorem sequencerSeesAxes_idle (h : a.seq.state = .idle) (old : PerAxis AxisRun) : a.sequencerSeesAxes c old = a := by
  unfold sequencerSeesAxes
  rw [h]
  rfl

theorem phaseComplete_tilt (h : a.seq.state = .stowTilt) : a.phaseComplete c = a.enterStowPan c := by
  unfold phaseComplete
  rw [h]

theorem phaseComplete_pan (h : a.seq.state = .stowPan) : a.phaseComplete c = a.enterStowMast c := by
  unfold phaseComplete
  rw [h]

theorem phaseComplete_mast (h : a.seq.state = .stowMast) :
    a.phaseComplete c = a.endSequence c .done .none .release := by
  unfold phaseComplete
  rw [h]
  rfl

end Acting

end Sys2Proof.Machine
end

section
/-! SUPPORT. The start of a STOW (R128, R129): the claims it makes, what it displaces, and the phases that are over at
once (R130). -/

namespace Sys2Proof.Machine

/-! ### Claims of SAFETY -/

/-- R66, R67: SAFETY outranks every owner, so a claim of it on an axis fails only by these checks. -/
theorem claimCheck_safety {c : Ctx} {x : Axis} {r : AxisRun} : claimCheck c .safety x r = none ↔
    c.sen.mode = .operating ∧ ¬c.sen.estop = true ∧ r.state ≠ .fault ∧ r.drive = .ready
      ∧ (c.sen.image[positionOf x]).state = .fresh := by
  have outranked : r.owner.rank ≤ Owner.safety.rank := by cases r.owner <;> decide
  have mode : c.sen.mode = .operating ↔ ¬c.sen.mode = .unconfigured := by cases c.sen.mode <;> decide
  rw [claimCheck_eq, mode]
  split_ifs <;> simp_all

section

variable (m : MotionRecord) (o : Owner) (g : Int) (r : AxisRun)

theorem AxisRun.claimed_owner : (r.claimed m o g).owner = o := (r.claimed_spec m o g).1

theorem AxisRun.claimed_goal : (r.claimed m o g).goal = some (m.clampGoal g) := by
  obtain ⟨-, goal, -, -⟩ := r.claimed_spec m o g
  exact goal

theorem AxisRun.claimed_state : (r.claimed m o g).state =
    if r.state = .atGoal ∧ r.goal = some (m.clampGoal g) then .atGoal else .moving := by
  obtain ⟨-, -, -, state⟩ := r.claimed_spec m o g
  exact state

end

theorem AxisRun.claimed_drive (m : MotionRecord) (o : Owner) (g : Int) (r : AxisRun) :
    (r.claimed m o g).drive = r.drive := by
  unfold AxisRun.claimed
  dsimp only
  split <;> rfl

/-- An axis that SAFETY may claim, it may claim again. -/
theorem claimCheck_claimed {c : Ctx} {x : Axis} {r : AxisRun} (h : claimCheck c .safety x r = none) (m : MotionRecord)
    (g : Int) : claimCheck c .safety x (r.claimed m .safety g) = none := by
  obtain ⟨mode, estop, -, drive, fresh⟩ := claimCheck_safety.1 h
  refine claimCheck_safety.2 ⟨mode, estop, ?_, (r.claimed_drive m .safety g).trans drive, fresh⟩
  rw [AxisRun.claimed_state]
  split <;> decide

theorem AxisRun.claimed_state_atGoal {m : MotionRecord} {o : Owner} {g : Int} {r : AxisRun} :
    (r.claimed m o g).state = .atGoal ↔ r.state = .atGoal ∧ r.goal = some (m.clampGoal g) := by
  rw [claimed_state]
  split
  next h => exact iff_of_true rfl h
  next h => exact iff_of_false nofun h

/-- R129, R130: an axis claimed with its keep goal and then for a goal `g` stands AT_GOAL where it stood at `g`. -/
theorem AxisRun.kept_then_claimed_atGoal {m : MotionRecord} {o : Owner} {g p : Int} {r : AxisRun} :
    ((r.claimed m o (r.goal.getD p)).claimed m o g).state = .atGoal ↔
      r.state = .atGoal ∧ r.goal = some (m.clampGoal g) := by
  rw [claimed_state_atGoal, claimed_state_atGoal, claimed_goal]
  constructor
  · rintro ⟨⟨stands, kept⟩, same⟩
    exact ⟨stands, kept.trans same⟩
  · rintro ⟨stands, goal⟩
    have clamped : m.clampGoal (r.goal.getD p) = m.clampGoal g := by
      rw [goal]
      exact m.clampGoal_clampGoal g
    exact ⟨⟨stands, goal.trans (congrArg some clamped.symm)⟩, congrArg some clamped⟩

theorem stowClaim_none {c : Ctx} {a : Acting} (h : stowClaim c a = none) (x : Axis) :
    claimCheck c .safety x (a.axes.get x) = none :=
  List.findSome?_eq_none_iff.1 h x (mem_axisList x)

namespace Acting

variable {c : Ctx} {a b : Acting}

/-! ### Up to the first phase (R129) -/

/-- R129, step 1: the goal of each axis at the start. -/
def stowGoal (c : Ctx) (a : Acting) : Axis → Int
  | .mast => keepGoal c .mast a.axes.mast
  | .pan => keepGoal c .pan a.axes.pan
  | .tilt => c.tab.guard.tilt.stowPos

/-- R129, steps 1 to 3: the axes are claimed, a search is aborted, and a LOWER gives way. -/
def stowClaimed (c : Ctx) (a : Acting) : Acting := ((a.claim c .safety (stowGoals c a)).abortSearch c).lowerGivesWay c

/-- R129: a STOW in STOW_TILT. -/
def stowBegun (c : Ctx) (a : Acting) : Acting := (a.stowClaimed c).phaseEntered c .stowTilt

theorem startStow_eq (c : Ctx) (a : Acting) : a.startStow c =
    if (a.stowBegun c).axes.tilt.state = .atGoal then (a.stowBegun c).enterStowPan c else a.stowBegun c := rfl

/-- R129, step 3: with no search running, a LOWER that gives way records its end and leaves the axes. -/
theorem lowerGivesWay_ended (h : a.search.state.running = false) (c : Ctx) :
    (a.lowerGivesWay c).axes = a.axes ∧ (a.lowerGivesWay c).search = a.search := by
  have deaf := lowerEnds_ended (a := { a with seq := { a.seq with state := .idle, timer := none } }) h c a.seq.state
  unfold lowerGivesWay endSequence partAxes
  split
  · dsimp only
    rw [deaf]
    exact ⟨sequenceEvent_axes _ _ _ _ _ _, sequenceEvent_search _ _ _ _ _ _⟩
  · exact ⟨rfl, rfl⟩

theorem stowBegun_get (c : Ctx) (a : Acting) (x : Axis) : (a.stowBegun c).axes.get x =
    (a.axes.get x).claimed (c.tab.motion.get x) .safety (a.stowGoal c x) := by
  have claimed : (a.claim c .safety (stowGoals c a)).axes.get x =
      (a.axes.get x).claimed (c.tab.motion.get x) .safety (a.stowGoal c x) :=
    claim_some c .safety _ a (by cases x <;> rfl)
  have axes : (a.stowBegun c).axes = ((a.claim c .safety (stowGoals c a)).abortSearch c).axes :=
    (lowerGivesWay_ended (abortSearch_ended c _) c).1
  rw [axes, abortSearch_axis, claimed, AxisRun.claimed_owner]
  exact if_neg fun h => nomatch h.2

theorem stowBegun_ended (c : Ctx) (a : Acting) : (a.stowBegun c).search.state.running = false := by
  have search : (a.stowBegun c).search = ((a.claim c .safety (stowGoals c a)).abortSearch c).search :=
    (lowerGivesWay_ended (abortSearch_ended c _) c).2
  rw [search]
  exact abortSearch_ended c _

/-! ### The phases that follow at once (R130) -/

/-- R130: a STOW whose tilt stands stowed, in STOW_PAN. -/
def panBegun (c : Ctx) (a : Acting) : Acting := (a.stowBegun c).phaseBegun c .stowPan .pan

/-- R130: a STOW whose tilt and pan stand stowed, in STOW_MAST. -/
def mastBegun (c : Ctx) (a : Acting) : Acting := (a.panBegun c).phaseBegun c .stowMast .mast

theorem panBegun_tilt (c : Ctx) (a : Acting) : (a.panBegun c).axes.tilt = (a.stowBegun c).axes.tilt :=
  phaseBegun_other (y := .tilt) c .stowPan (by decide) _

theorem panBegun_mast (c : Ctx) (a : Acting) : (a.panBegun c).axes.mast = (a.stowBegun c).axes.mast :=
  phaseBegun_other (y := .mast) c .stowPan (by decide) _

theorem panBegun_pan (c : Ctx) (a : Acting) : (a.panBegun c).axes.pan =
    (a.axes.pan.claimed c.tab.motion.pan .safety (keepGoal c .pan a.axes.pan)).claimed c.tab.motion.pan .safety
      c.tab.guard.pan.stowPos :=
  (phaseBegun_self c .stowPan .pan _).trans
    (congrArg (AxisRun.claimed c.tab.motion.pan .safety c.tab.guard.pan.stowPos) (a.stowBegun_get c .pan))

theorem mastBegun_tilt (c : Ctx) (a : Acting) : (a.mastBegun c).axes.tilt = (a.stowBegun c).axes.tilt :=
  (phaseBegun_other (y := .tilt) c .stowMast (by decide) _).trans (a.panBegun_tilt c)

theorem mastBegun_pan (c : Ctx) (a : Acting) : (a.mastBegun c).axes.pan = (a.panBegun c).axes.pan :=
  phaseBegun_other (y := .pan) c .stowMast (by decide) _

theorem mastBegun_mast (c : Ctx) (a : Acting) : (a.mastBegun c).axes.mast =
    (a.axes.mast.claimed c.tab.motion.mast .safety (keepGoal c .mast a.axes.mast)).claimed c.tab.motion.mast .safety
      c.tab.guard.mast.stowPos :=
  (phaseBegun_self c .stowMast .mast _).trans
    (congrArg (AxisRun.claimed c.tab.motion.mast .safety c.tab.guard.mast.stowPos)
      ((a.panBegun_mast c).trans (a.stowBegun_get c .mast)))

theorem stowBegun_tilt_atGoal : (a.stowBegun c).axes.tilt.state = .atGoal ↔ a.stowed c .tilt := by
  have claimed := a.stowBegun_get c .tilt
  rw [PerAxis.get_tilt] at claimed
  rw [claimed]
  exact AxisRun.claimed_state_atGoal

theorem panBegun_pan_atGoal : (a.panBegun c).axes.pan.state = .atGoal ↔ a.stowed c .pan := by
  rw [panBegun_pan]
  exact AxisRun.kept_then_claimed_atGoal

theorem mastBegun_mast_atGoal : (a.mastBegun c).axes.mast.state = .atGoal ↔ a.stowed c .mast := by
  rw [mastBegun_mast]
  exact AxisRun.kept_then_claimed_atGoal

/-- R130: a STOW that starts goes through the phases of the axes that stand stowed. -/
theorem startStow_phases (h : stowClaim c a = none) : a.startStow c =
    if ¬a.stowed c .tilt then a.stowBegun c
    else if ¬a.stowed c .pan then a.panBegun c
    else if ¬a.stowed c .mast then a.mastBegun c
    else (a.mastBegun c).finishStow c := by
  have pan : claimCheck c .safety .pan ((a.stowBegun c).axes.get .pan) = none := by
    rw [stowBegun_get]
    exact claimCheck_claimed (stowClaim_none h .pan) _ _
  have mast : claimCheck c .safety .mast ((a.panBegun c).axes.get .mast) = none := by
    rw [PerAxis.get_mast, panBegun_mast, ← PerAxis.get_mast, stowBegun_get]
    exact claimCheck_claimed (stowClaim_none h .mast) _ _
  have entered : (a.stowBegun c).enterStowPan c =
      if (a.panBegun c).axes.pan.state = .atGoal then (a.panBegun c).enterStowMast c else a.panBegun c :=
    enterPhase_granted pan _
  have entered' : (a.panBegun c).enterStowMast c =
      if (a.mastBegun c).axes.mast.state = .atGoal then (a.mastBegun c).finishStow c else a.mastBegun c :=
    enterPhase_granted mast _
  rw [startStow_eq, entered, entered']
  simp only [stowBegun_tilt_atGoal, panBegun_pan_atGoal, mastBegun_mast_atGoal, ite_not]

/-! ### A STOW that has started -/

/-- R129, R130: the acting side `b` is the acting side `a` after a STOW has started and gone on to a phase, or to its
end: the sequencer with its timer and its record, the owners, and the goals. -/
structure StowAt (c : Ctx) (a : Acting) (phase : SequenceState) (b : Acting) : Prop where
  state : b.seq.state = phase
  ended : b.search.state.running = false
  runs : phase ≠ .idle →
    b.seq.timer = some (c.tab.pointing.phaseTimeout * 1000000) ∧ ∀ x, (b.axes.get x).owner = .safety
  done : phase = .idle → b.seq.timer = none ∧ b.seq.lastName = .stow ∧ b.seq.lastOutcome = .done
    ∧ ∀ x, (b.axes.get x).owner = .none
  tilt : b.axes.tilt.goal = some (c.tab.motion.tilt.clampGoal c.tab.guard.tilt.stowPos)
  pan : b.axes.pan.goal = some (c.tab.motion.pan.clampGoal
    (if phase = .stowTilt then keepGoal c .pan a.axes.pan else c.tab.guard.pan.stowPos))
  mast : b.axes.mast.goal = some (c.tab.motion.mast.clampGoal
    (if phase = .stowTilt ∨ phase = .stowPan then keepGoal c .mast a.axes.mast else c.tab.guard.mast.stowPos))

theorem stowBegun_goal (c : Ctx) (a : Acting) (x : Axis) :
    ((a.stowBegun c).axes.get x).goal = some ((c.tab.motion.get x).clampGoal (a.stowGoal c x)) := by
  rw [stowBegun_get]
  exact AxisRun.claimed_goal _ _ _ _

theorem stowBegun_owner (c : Ctx) (a : Acting) (x : Axis) : ((a.stowBegun c).axes.get x).owner = .safety := by
  rw [stowBegun_get]
  exact AxisRun.claimed_owner _ _ _ _

/-- A phase that begins keeps every axis SAFETY's. -/
theorem phaseBegun_owner (h : ∀ y, (b.axes.get y).owner = .safety) (c : Ctx) (st : SequenceState) (x y : Axis) :
    ((b.phaseBegun c st x).axes.get y).owner = .safety := by
  by_cases hy : y = x
  · rw [hy, phaseBegun_self]
    exact AxisRun.claimed_owner _ _ _ _
  · rw [phaseBegun_other c st hy]
    exact h y

theorem phaseBegun_goal (c : Ctx) (st : SequenceState) (x : Axis) (b : Acting) :
    ((b.phaseBegun c st x).axes.get x).goal = some ((c.tab.motion.get x).clampGoal (c.tab.guard.get x).stowPos) := by
  rw [phaseBegun_self]
  exact AxisRun.claimed_goal _ _ _ _

theorem stowBegun_at (c : Ctx) (a : Acting) : StowAt c a .stowTilt (a.stowBegun c) where
  state := rfl
  ended := a.stowBegun_ended c
  runs _ := ⟨rfl, a.stowBegun_owner c⟩
  done := nofun
  tilt := a.stowBegun_goal c .tilt
  pan := a.stowBegun_goal c .pan
  mast := a.stowBegun_goal c .mast

theorem panBegun_at (c : Ctx) (a : Acting) : StowAt c a .stowPan (a.panBegun c) where
  state := congrArg SequencerRun.state (phaseBegun_seq c .stowPan .pan _)
  ended := (congrArg (·.state.running) (phaseBegun_search c .stowPan .pan _)).trans (a.stowBegun_ended c)
  runs _ := ⟨congrArg SequencerRun.timer (phaseBegun_seq c .stowPan .pan _),
    phaseBegun_owner (a.stowBegun_owner c) c .stowPan .pan⟩
  done := nofun
  tilt := (congrArg AxisRun.goal (a.panBegun_tilt c)).trans (a.stowBegun_goal c .tilt)
  pan := phaseBegun_goal c .stowPan .pan _
  mast := (congrArg AxisRun.goal (a.panBegun_mast c)).trans (a.stowBegun_goal c .mast)

theorem mastBegun_at (c : Ctx) (a : Acting) : StowAt c a .stowMast (a.mastBegun c) where
  state := congrArg SequencerRun.state (phaseBegun_seq c .stowMast .mast _)
  ended := (congrArg (·.state.running) (phaseBegun_search c .stowMast .mast _)).trans (a.panBegun_at c).ended
  runs _ := ⟨congrArg SequencerRun.timer (phaseBegun_seq c .stowMast .mast _),
    phaseBegun_owner ((a.panBegun_at c).runs nofun).2 c .stowMast .mast⟩
  done := nofun
  tilt := (congrArg AxisRun.goal (a.mastBegun_tilt c)).trans (a.stowBegun_goal c .tilt)
  pan := (congrArg AxisRun.goal (a.mastBegun_pan c)).trans (a.panBegun_at c).pan
  mast := phaseBegun_goal c .stowMast .mast _

/-- R132: the end of the STOW releases the three axes, and one that stands AT_GOAL keeps its place. -/
theorem finished_axis (c : Ctx) (a : Acting) {x : Axis} (h : ((a.mastBegun c).axes.get x).state = .atGoal) :
    ((a.mastBegun c).finishStow c).axes.get x = { (a.mastBegun c).axes.get x with owner := .none } := by
  have started := a.mastBegun_at c
  have released : ((a.mastBegun c).finishStow c).axes.get x = ((a.mastBegun c).axes.get x).released := by
    have stows : ¬((a.mastBegun c).seq.state = .lowering ∧ (a.mastBegun c).search.state = .suspended) := fun hs =>
      nomatch started.state.symm.trans hs.1
    exact (endSequence_get_quiet c .done .none _ stows x).trans (if_pos ((started.runs nofun).2 x))
  rw [released]
  exact AxisRun.released_kept (by rw [h]; decide) (by rw [h]; decide)

theorem finished_search (c : Ctx) (a : Acting) :
    ((a.mastBegun c).finishStow c).search = (a.mastBegun c).search := by
  have quiet : ((a.mastBegun c).seqFreed c).search.state.running = false := by
    rw [seqFreed_search]
    exact (a.mastBegun_at c).ended
  refine (endSequence_search c .done .none _).trans ?_
  rw [lowerEnds_ended quiet, seqFreed_search]

theorem finished_at (ht : a.stowed c .tilt) (hp : a.stowed c .pan) (hm : a.stowed c .mast) :
    StowAt c a .idle ((a.mastBegun c).finishStow c) := by
  have started := a.mastBegun_at c
  have stands : ∀ x, ((a.mastBegun c).axes.get x).state = .atGoal
    | .mast => mastBegun_mast_atGoal.2 hm
    | .pan => (congrArg AxisRun.state (a.mastBegun_pan c)).trans (panBegun_pan_atGoal.2 hp)
    | .tilt => (congrArg AxisRun.state (a.mastBegun_tilt c)).trans (stowBegun_tilt_atGoal.2 ht)
  have kept : ∀ x, (((a.mastBegun c).finishStow c).axes.get x).goal = ((a.mastBegun c).axes.get x).goal := fun x => by
    rw [a.finished_axis c (stands x)]
  have seq : ((a.mastBegun c).finishStow c).seq = { (a.mastBegun c).seq with
      state := .idle, timer := none, lastName := (a.mastBegun c).seq.state.sequence, lastOutcome := .done
      lastReason := .none } := endSequence_seq c .done .none _
  rw [started.state] at seq
  refine ⟨by rw [seq], by rw [finished_search]; exact started.ended, fun h => absurd rfl h, fun _ => ?_,
    (kept .tilt).trans started.tilt, (kept .pan).trans started.pan, (kept .mast).trans started.mast⟩
  rw [seq]
  exact ⟨rfl, rfl, rfl, fun x => by rw [a.finished_axis c (stands x)]⟩

/-- R129, R130: a STOW that starts stands in its first phase that is not over at once. -/
theorem startStow_at (h : stowClaim c a = none) : StowAt c a (a.firstPhase c) (a.startStow c) := by
  rw [startStow_phases h]
  unfold firstPhase
  split_ifs with ht hp hm
  · exact finished_at ht hp hm
  · exact a.mastBegun_at c
  · exact a.panBegun_at c
  · exact a.stowBegun_at c

/-- R129: the start of a STOW commands no rate. -/
theorem startStow_coasts (c : Ctx) (a : Acting) : a.Coasts (a.startStow c) := by
  have claimed : a.Coasts (a.stowClaimed c) :=
    ((Coasts.claim .safety _ a).trans (abortSearch_coasts c _)).trans (.ite (.endSequence _ _ _ _))
  have begun : a.Coasts (a.stowBegun c) := claimed.trans (.aside rfl rfl)
  rw [startStow_eq]
  split
  · exact begun.trans (.enterStowPan _)
  · exact begun

/-! ### The frame (R128) -/

theorem stowFrame_stowing (hm : c.operating = true) (hs : a.seq.state.stowing = true) :
    a.stowFrame c = (a, .noChange) := by
  unfold stowFrame
  rw [hm, hs]
  rfl

theorem stowFrame_refused (hm : c.operating = true) (hs : a.seq.state.stowing = false) {r : Result}
    (hr : stowClaim c a = some r) : a.stowFrame c = (a, r) := by
  unfold stowFrame
  rw [hm, hs, hr]
  rfl

theorem stowFrame_granted (hm : c.operating = true) (hs : a.seq.state.stowing = false)
    (hr : stowClaim c a = none) : a.stowFrame c = (a.startStow c, .done) := by
  unfold stowFrame
  rw [hm, hs, hr]
  rfl

end Acting

end Sys2Proof.Machine
end

section
/-! PROOFS. O41: STOW, its start and its phases (R128 to R130, R132). -/

namespace Sys2Proof.Machine

/-- Settles O41. -/
theorem stowStartsAsStated : Obligations.StowStartsAsStated := by
  refine ⟨fun s h hc => ?_, fun c a => ⟨fun stands => ?_, fun moves => ?_⟩, fun c old a => ⟨fun hs => ?_, fun hs => ?_,
    fun hs => ?_, fun hs => Acting.sequencerSeesAxes_idle hs old⟩,
    fun c a => ⟨?_, fun granted => ?_, ?_, fun granted => ?_⟩⟩
  · intro e c clamp stow keep phase
    have answered : ∀ {a : Acting} {r : Result}, e.act.stowFrame c = (a, r) →
        exec (.stow h []) s = .next (s.answered h .stow r { e with act := a }) := fun hq =>
      exec_answered rfl hc nofun nofun (congrArg (answer (frameOf h .stow []))
        ((Part.bare_nil _ _).trans (Part.doing_eq hq)))
    refine ⟨fun off => answered (stowFrame_notStarted (Ctx.operating_eq_false.2 off) _), fun on hs =>
      answered (Acting.stowFrame_stowing (a := e.act) (Ctx.operating_iff.2 on) hs), fun on hs =>
      ⟨fun r hr => answered (Acting.stowFrame_refused (a := e.act) (Ctx.operating_iff.2 on) hs hr), fun hr =>
        ⟨_, answered (Acting.stowFrame_granted (a := e.act) (Ctx.operating_iff.2 on) hs hr), rfl, ?_⟩⟩⟩
    have started : Acting.StowAt c e.act phase (e.act.startStow c) := Acting.startStow_at hr
    have coasts := e.act.startStow_coasts c
    refine ⟨started.state, started.ended, started.runs, started.done, started.tilt, ?_, ?_, coasts.vPrev,
      coasts.out.driveQueue⟩
    · rw [started.pan]
      split <;> rfl
    · rw [started.mast]
      split <;> rfl
  · exact (a.startStow_eq c).trans (if_pos stands)
  · exact (a.startStow_eq c).trans (if_neg moves)
  · rw [Acting.sequencerSeesAxes_phase (by rw [hs]; rfl), Acting.phaseComplete_tilt hs]
    exact ⟨fun h => if_pos h, fun h => if_neg h⟩
  · rw [Acting.sequencerSeesAxes_phase (by rw [hs]; rfl), Acting.phaseComplete_pan hs]
    exact ⟨fun h => if_pos h, fun h => if_neg h⟩
  · rw [Acting.sequencerSeesAxes_phase (by rw [hs]; rfl), Acting.phaseComplete_mast hs]
    exact ⟨fun h => if_pos h, fun h => if_neg h⟩
  · exact fun refused => Acting.enterPhase_refused refused _
  · have granted' := Acting.enterPhase_granted (st := .stowPan) granted (Acting.enterStowMast c)
    exact ⟨fun stands => granted'.trans (if_pos stands), fun moves => granted'.trans (if_neg moves)⟩
  · exact fun refused => Acting.enterPhase_refused refused _
  · have granted' := Acting.enterPhase_granted (st := .stowMast) granted (Acting.finishStow c)
    exact ⟨fun stands => granted'.trans (if_pos stands), fun moves => granted'.trans (if_neg moves)⟩

end Sys2Proof.Machine
end

section
/-! SUPPORT. The ending of a sequence, whatever it does with its axes (R133, R137, R139), its phase timer, and a LOWER
(R136). -/

namespace Sys2Proof.Machine

theorem AxisRun.stoppedBy_owner_ne {o : Owner} {r : AxisRun} (h : r.owner ≠ o) (ho : o ≠ .none) :
    r.stoppedBy.owner ≠ o := by
  unfold AxisRun.stoppedBy
  split
  case h_1 | h_2 | h_3 | h_4 => exact ho.symm
  case h_5 | h_6 | h_7 => exact h

/-- R69, R129, R133: what an ending does with one axis of the sequence. -/
def Parting.parts : Parting → AxisRun → AxisRun
  | .release => AxisRun.released
  | .stop => AxisRun.stoppedBy
  | .pass => id

/-- An axis that the sequence owned does not pass to the search. -/
theorem Parting.parts_owner {r : AxisRun} (h : r.owner = .safety) : ∀ how : Parting, (how.parts r).owner ≠ .search
  | .release => fun hs => nomatch r.released_owner.symm.trans hs
  | .stop => AxisRun.stoppedBy_owner_ne (by rw [h]; decide) (by decide)
  | .pass => fun hs => nomatch h.symm.trans hs

namespace Acting

/-! ### The parting -/

section

variable (c : Ctx) (how : Parting) (a : Acting)

theorem partAxes_search : (a.partAxes c how).search = a.search := by
  cases how
  case release => exact release_search c .safety a
  case stop =>
    unfold partAxes shiftQuiet
    rw [shift_search]
  case pass => rfl

theorem partAxes_seq : (a.partAxes c how).seq = a.seq := by
  cases how
  case release => exact release_seq c .safety a
  case stop =>
    unfold partAxes shiftQuiet
    rw [shift_seq]
  case pass => rfl

theorem partAxes_get (x : Axis) : (a.partAxes c how).axes.get x =
    if (a.axes.get x).owner = .safety then how.parts (a.axes.get x) else a.axes.get x := by
  cases how
  case release => exact release_get c .safety a x
  case stop =>
    unfold partAxes shiftQuiet
    rw [shift_get]
    rfl
  case pass => exact (ite_self _).symm

/-- R137: the acting side with the sequencer at IDLE and its axes parted with. -/
def seqParted : Acting := Acting.partAxes c how { a with seq := { a.seq with state := .idle, timer := none } }

theorem seqParted_search : (a.seqParted c how).search = a.search := partAxes_search c how _

theorem seqParted_seq : (a.seqParted c how).seq = { a.seq with state := .idle, timer := none } := partAxes_seq c how _

theorem seqParted_get (x : Axis) : (a.seqParted c how).axes.get x =
    if (a.axes.get x).owner = .safety then how.parts (a.axes.get x) else a.axes.get x :=
  partAxes_get c how { a with seq := { a.seq with state := .idle, timer := none } } x

theorem seqParted_driveQueue : (a.seqParted c how).out.driveQueue = a.out.driveQueue :=
  (Coasts.partAxes how { a with seq := { a.seq with state := .idle, timer := none } }).out.driveQueue

/-! ### The ending (R137, R139) -/

variable (e : Ending) (r : SequenceReason)

/-- R137, R139: an ending parts with the axes, hands the end of a LOWER to the search, and raises its record as
SEQUENCE_END. -/
theorem endSequence_raise : a.endSequence c e r how =
    ({ (a.seqParted c how).lowerEnds c a.seq.state with seq := { (a.seqParted c how).seq with
        lastName := a.seq.state.sequence, lastOutcome := e, lastReason := r } } : Acting).raise c .sequenceEnd
      [BitVec.ofInt 16 (sequenceNameCode a.seq.state.sequence), BitVec.ofInt 16 (endingCode e),
        BitVec.ofInt 16 (sequenceReasonCode r), BitVec.ofInt 16 (sequenceStateCode a.seq.state)] := by
  rw [← (FreesSearch.lowerEnds (c := c) a.seq.state (a.seqParted c how)).seq]
  rfl

theorem endSequence_parted_axes :
    (a.endSequence c e r how).axes = ((a.seqParted c how).lowerEnds c a.seq.state).axes := by
  rw [endSequence_raise, raise_axes]

/-- R139: the sequencer after an ending. -/
theorem endSequence_parted_seq : (a.endSequence c e r how).seq =
    { state := .idle, lastName := a.seq.state.sequence, lastOutcome := e, lastReason := r, timer := none } := by
  rw [endSequence_raise, raise_seq]
  dsimp only
  rw [seqParted_seq]

variable {a}

/-- R133, R137: the axes of the sequence are parted with, and the search leaves them so. -/
theorem endSequence_get_owned {x : Axis} (h : (a.axes.get x).owner = .safety) :
    (a.endSequence c e r how).axes.get x = how.parts (a.axes.get x) := by
  have parted : (a.seqParted c how).axes.get x = how.parts (a.axes.get x) := (a.seqParted_get c how x).trans (if_pos h)
  rw [endSequence_parted_axes, ← parted]
  refine ((FreesSearch.lowerEnds a.seq.state (a.seqParted c how)).axes x).resolve_right fun ⟨searches, _⟩ => ?_
  rw [parted] at searches
  exact how.parts_owner h searches

/-- R117, R137: another axis is released by a suspended search that the end of a LOWER lets go on, or is as it was. -/
theorem endSequence_get_other {x : Axis} (h : (a.axes.get x).owner ≠ .safety) :
    (a.endSequence c e r how).axes.get x = a.axes.get x
      ∨ (a.seq.state = .lowering ∧ a.search.state = .suspended
          ∧ (a.endSequence c e r how).axes.get x = (a.axes.get x).released) := by
  have kept : (a.seqParted c how).axes.get x = a.axes.get x := (a.seqParted_get c how x).trans (if_neg h)
  rw [endSequence_parted_axes]
  by_cases goes_on : a.seq.state = .lowering ∧ a.search.state = .suspended
  · have freed := (FreesSearch.lowerEnds (c := c) a.seq.state (a.seqParted c how)).axes x
    rw [kept] at freed
    exact freed.imp_right fun ⟨_, released⟩ => ⟨goes_on.1, goes_on.2, released⟩
  · rw [lowerEnds_quiet c (a.seqParted c how) (by rwa [seqParted_search])]
    exact .inl kept

end

variable {c : Ctx} {a : Acting}

/-! ### The phase timer (R133, R137) -/

theorem phaseExpired_running (hs : a.seq.state ≠ .idle) (ht : a.seq.timer.isSome = true) :
    a.phaseExpired c = a.endSequence c .failed .phaseTimeout .stop :=
  (if_pos ht).trans (if_pos (SequenceState.running_iff.2 hs))

theorem phaseExpired_stopped (h : a.seq.timer = none) : a.phaseExpired c = a := if_neg (by rw [h]; decide)

/-! ### LOWER (R136, R137) -/

theorem lowerAction_refused {refusal : Result} (h : claimCheck c .safety .mast a.axes.mast = some refusal) :
    a.lowerAction c = (a.raise c .sequenceEnd [2, 4, BitVec.ofInt 16 (resultCode refusal), 0], false) := by
  unfold lowerAction
  rw [h]
  rfl

theorem lowerAction_granted (h : claimCheck c .safety .mast a.axes.mast = none) :
    a.lowerAction c = (a.startLower c, true) := by
  unfold lowerAction
  rw [h]

theorem phaseComplete_lower (h : a.seq.state = .lowering) :
    a.phaseComplete c = a.endSequence c .done .none .release := by
  unfold phaseComplete
  rw [h]

/-- R136: the mast claimed for the safe height, in LOWERING, with the search told. -/
def lowerBegun (c : Ctx) (a : Acting) : Acting :=
  ((a.claim c .safety (goalFor .mast c.tab.pointing.safeHeight)).phaseEntered c .lowering).enterCause c
    fun k => { k with lowerRunning := true }

/-- R136: a LOWER whose mast stands AT_GOAL after its claim is complete at once. -/
theorem startLower_eq (c : Ctx) (a : Acting) : a.startLower c =
    if (a.lowerBegun c).axes.mast.state = .atGoal then (a.lowerBegun c).endSequence c .done .none .release
    else a.lowerBegun c := rfl

end Acting

end Sys2Proof.Machine
end

section
/-! PROOFS. O42: the phase timer, the ending of a sequence, and LOWER (R133, R136, R137, R139). -/

namespace Sys2Proof.Machine

/-- Settles O42. -/
theorem phaseTimeoutStopsAxes : Obligations.PhaseTimeoutStopsAxes := by
  refine ⟨fun s live => ?_, fun c outcome reason how a => ⟨a.seqParted c how, a.seqParted_search c how,
    a.seqParted_seq c how, a.seqParted_driveQueue c how, ?_, fun x => ?_, a.endSequence_raise c how outcome reason⟩,
    fun c a => ⟨fun _ => Acting.lowerAction_refused, Acting.lowerAction_granted,
      fun stands => (a.startLower_eq c).trans (if_pos stands), fun moves => (a.startLower_eq c).trans (if_neg moves)⟩,
    fun c old a lowers => ?_⟩
  · have run : exec .phaseTimerExpiry s =
        .next (s.settled { s.part with act := s.part.act.phaseExpired s.part.ctx }) := State.run_live live _
    refine ⟨fun runs timed => ?_, fun stopped => ?_⟩
    · rw [Acting.phaseExpired_running runs timed] at run
      exact ⟨_, run, rfl, s.part.act.endSequence_parted_seq s.part.ctx .stop .failed .phaseTimeout,
        fun _ => Acting.endSequence_get_owned _ .stop _ _, fun _ => Acting.endSequence_get_other _ .stop _ _,
        (Acting.Coasts.endSequence _ _ _ _).out.driveQueue⟩
    · rw [Acting.phaseExpired_stopped stopped] at run
      exact run
  · cases how <;> rfl
  · rw [Acting.seqParted_get]
    cases how <;> rfl
  · have sees : a.sequencerSeesAxes c old = if a.Arrives old .mast then a.phaseComplete c else a :=
      Acting.sequencerSeesAxes_phase (by rw [lowers]; rfl) old
    rw [Acting.phaseComplete_lower lowers] at sees
    exact ⟨fun arrives => sees.trans (if_pos arrives), fun absent => sees.trans (if_neg absent)⟩

end Sys2Proof.Machine
end

section
/-! SUPPORT. The frame on the wire (R143 to R145): its header words as numbers, its kind code, and its check word. -/

namespace Sys2Proof.Machine

/-! ### The check word (R144) -/

/-- R144: with the check word at their end the words sum to 0xFFFF. -/
theorem sum_checkWord (body : List Word) : (body ++ [checkWord body]).foldl (· + ·) 0 = 0xFFFF := by
  rw [List.foldl_append]
  exact BitVec.add_not_self _

theorem wireWords_eq (f : Frame) : wireWords f =
    (headerWord0 f :: headerWord1 f :: f.payload) ++ [checkWord (headerWord0 f :: headerWord1 f :: f.payload)] := rfl

/-! ### The header words (R143) -/

theorem kindCode_lt (k : Kind) : kindCode k < 256 := by cases k <;> decide

theorem kindOf_kindCode (k : Kind) : kindOf (kindCode k) = some k := by cases k <;> rfl

theorem headerWord0_toNat (f : Frame) :
    (headerWord0 f).toNat = f.dst.val * 2048 + f.src.val * 64 + f.prio.val * 8 := by
  have hd := f.dst.isLt
  have hs := f.src.isLt
  have hp := f.prio.isLt
  exact Nat.mod_eq_of_lt (by omega)

theorem headerWord1_toNat {f : Frame} (h : f.payload.length ≤ 15) :
    (headerWord1 f).toNat = kindCode f.kind * 256 + f.payload.length * 16 := by
  have hk := kindCode_lt f.kind
  exact Nat.mod_eq_of_lt (by omega)

/-- R143: the low bits of the second header word are zero, whatever the length of the payload. -/
theorem headerWord1_zero (f : Frame) : (headerWord1 f).toNat % 16 = 0 := by
  unfold headerWord1
  rw [BitVec.toNat_ofNat]
  omega

/-! ### The words read back (R145) -/

theorem readWords_framing (ws : List Word) : readWords false ws = none := by
  unfold readWords
  split <;> rfl

/-- R144, R145: the last word of a frame that is accepted is its check word. -/
theorem checked_of_readWords {framing : Bool} {ws : List Word} {f : Frame} (h : readWords framing ws = some f) :
    ∃ body, ws = body ++ [checkWord body] := by
  unfold readWords at h
  split at h
  next w0 w1 rest =>
    dsimp only at h
    split at h
    next passed =>
      have last : rest.getLast? = some (checkWord (w0 :: w1 :: rest.dropLast)) :=
        of_decide_eq_true (Bool.and_eq_true_iff.1 passed).2
      exact ⟨w0 :: w1 :: rest.dropLast, congrArg (w0 :: w1 :: ·) (List.dropLast_append_getLast? _ last).symm⟩
    · cases h
  · cases h

/-- R143 to R145: every field of a frame is read back from its words. -/
theorem readWords_wireWords {f : Frame} (h : f.payload.length ≤ 14) : readWords true (wireWords f) = some f := by
  have word0 := headerWord0_toNat f
  have word1 := headerWord1_toNat (f := f) (by omega)
  have hd := f.dst.isLt
  have hs := f.src.isLt
  have hp := f.prio.isLt
  have stated : (headerWord1 f).toNat / 16 % 16 = f.payload.length := by omega
  have zero0 : (headerWord0 f).toNat % 8 = 0 := by omega
  have kind : (headerWord1 f).toNat / 256 = kindCode f.kind := by omega
  have dst : Fin.ofNat 32 ((headerWord0 f).toNat / 2048) = f.dst := Fin.ext (by rw [Fin.val_ofNat]; omega)
  have src : Fin.ofNat 32 ((headerWord0 f).toNat / 64) = f.src := Fin.ext (by rw [Fin.val_ofNat]; omega)
  have prio : Fin.ofNat 8 ((headerWord0 f).toNat / 8) = f.prio := Fin.ext (by rw [Fin.val_ofNat]; omega)
  have short : f.payload.length ≠ 15 := by omega
  rw [wireWords_eq]
  simp only [List.cons_append, readWords, stated, zero0, headerWord1_zero, kind, dst, src, prio, kindOf_kindCode, short,
    List.length_append, List.length_singleton, List.dropLast_concat, List.getLast?_concat, ne_eq, not_false_eq_true,
    decide_true, Bool.and_self, if_true, Option.map_some]

end Sys2Proof.Machine
end

section
/-! PROOFS. O43, O44: the check word, and the words of a frame read back (R143 to R145, R163). -/

namespace Sys2Proof.Machine

/-- R163: the priority is the frame's, or its source's cap where that is lower. -/
theorem Tables.rewrite_prio (t : Tables) (f : Frame) : (t.rewrite f).prio.val = min f.prio.val (t.node f.src).cap :=
  Nat.mod_eq_of_lt ((Nat.min_le_left _ _).trans_lt f.prio.isLt)

/-- Settles O43. -/
theorem checkWordAsStated : Obligations.CheckWordAsStated := by
  refine ⟨fun _ => rfl, fun f => ⟨_, wireWords_eq f, ?_, ?_, headerWord1_zero f⟩, fun framing ws f read => ?_,
    fun _ _ _ _ _ => ⟨rfl, rfl, rfl, rfl⟩, fun _ _ _ => ⟨rfl, rfl, rfl, rfl⟩, fun _ _ => ⟨rfl, rfl, rfl, rfl⟩,
    fun _ _ _ => ⟨rfl, rfl, rfl, rfl⟩, fun t f => ⟨rfl, rfl, rfl, rfl, t.rewrite_prio f⟩⟩
  · rw [wireWords_eq]
    exact sum_checkWord _
  · rw [headerWord0_toNat]
    omega
  · obtain ⟨body, rfl⟩ := checked_of_readWords read
    exact sum_checkWord body

/-- Settles O44. -/
theorem framesReadBackFromWords : Obligations.FramesReadBackFromWords :=
  fun f short => ⟨readWords_wireWords short, readWords_framing (wireWords f)⟩

end Sys2Proof.Machine
end

section
/-! SUPPORT. Placements at a port that transmits and at an idle one (R169, R171, R173, R174), with
sixteen frames waiting for port C too, and the frame that a port takes next (R170). -/

namespace Sys2Proof.Machine

namespace Output

variable {o o' : Output} {t : Tables} {v : List Word} {k : Port}

/-! ### A port that transmits, and an idle one (R174) -/

theorem startIfIdle_busy (busy : (o.tx.get k).isSome = true) : o.startIfIdle t v k = o :=
  if_neg (by rw [Option.isNone_iff_eq_none]; exact Option.isSome_iff_ne_none.1 busy)

theorem startIfIdle_idle (idle : o.tx.get k = none) : o.startIfIdle t v k = o.takeNext t v k :=
  if_pos (by rw [idle]; rfl)

/-- R174: the transmission of a port is over, and counted; the port has not yet taken its next frame. -/
def sentOn (k : Port) (o : Output) : Output := ({ o with tx := o.tx.set k none } : Output).countSent k

theorem complete_busy (busy : (o.tx.get k).isSome = true) : o.complete t v k = (o.sentOn k).takeNext t v k :=
  if_pos busy

theorem complete_idle (idle : o.tx.get k = none) : o.complete t v k = o := if_neg (by rw [idle]; decide)

/-! ### The frame that a port takes next (R170, R174) -/

theorem takeNext_urgent {e : CEntry} {rest : List CEntry} (h : o.urgent = e :: rest) :
    o.takeNext t v .c = { o with urgent := rest }.transmitC t v e := by
  simp only [takeNext, h]

theorem takeNext_routine {e : CEntry} {rest : List CEntry} (hu : o.urgent = []) (hr : o.routine = e :: rest) :
    o.takeNext t v .c = { o with routine := rest }.transmitC t v e := by
  simp only [takeNext, hu, hr]

theorem takeNext_noneC (hu : o.urgent = []) (hr : o.routine = []) : o.takeNext t v .c = o := by
  simp only [takeNext, hu, hr]

theorem takeNext_drive {e : DEntry} {rest : List DEntry} (h : o.driveQueue = e :: rest) :
    o.takeNext t v .d = { o with driveQueue := rest }.transmit .d e.frame := by
  simp only [takeNext, h]

theorem takeNext_noneD (h : o.driveQueue = []) : o.takeNext t v .d = o := by
  simp only [takeNext, h]

theorem takeNext_sensor {f : Frame} {rest : List Frame} (h : o.sensorQueue = f :: rest) :
    o.takeNext t v .s = { o with sensorQueue := rest }.transmit .s f := by
  simp only [takeNext, h]

theorem takeNext_noneS (h : o.sensorQueue = []) : o.takeNext t v .s = o := by
  simp only [takeNext, h]

/-! ### The first frame at an idle port (R174) -/

theorem startIfIdle_first_drive (idle : o.tx.d = none) (empty : o.driveQueue = []) (e : DEntry) :
    ({ o with driveQueue := [e] } : Output).startIfIdle t v .d =
      { o with tx := { o.tx with d := some ⟨e.frame, frameTime e.frame⟩ } } := by
  rw [startIfIdle_idle (o := { o with driveQueue := [e] }) (k := .d) idle, takeNext_drive rfl, ← empty]
  rfl

theorem startIfIdle_first_sensor (idle : o.tx.s = none) (empty : o.sensorQueue = []) (f : Frame) :
    ({ o with sensorQueue := [f] } : Output).startIfIdle t v .s =
      { o with tx := { o.tx with s := some ⟨f, frameTime f⟩ } } := by
  rw [startIfIdle_idle (o := { o with sensorQueue := [f] }) (k := .s) idle, takeNext_sensor rfl, ← empty]
  rfl

/-! ### A full port C queue (R171) -/

theorem insertC_lost {urgent : Bool} (full : 16 ≤ o.waitingC) (none_gives : urgent = true → o.routine = [])
    (e : CEntry) : o.insertC urgent e = (o, some e) := by
  unfold insertC
  rw [Config.placesC, if_neg (Nat.not_lt.2 full)]
  split
  next hu => rw [none_gives hu]; rfl
  · rfl

theorem insertC_displaces {older : List CEntry} {newest : CEntry} (full : 16 ≤ o.waitingC)
    (last : o.routine = older ++ [newest]) (e : CEntry) :
    o.insertC true e = ({ o with urgent := o.urgent ++ [e], routine := older }, some newest) := by
  unfold insertC
  rw [Config.placesC, if_neg (Nat.not_lt.2 full), if_pos rfl, last, List.getLast?_concat, List.dropLast_concat]

/-- A frame that finds no place, or is displaced, is dropped after the placement (log 17). -/
theorem placeC_busy_lost {urgent : Bool} {e lost : CEntry} (insert : o.insertC urgent e = (o', some lost))
    (busy : o'.tx.c.isSome = true) : o.placeC t v urgent e = o'.drop t v (lost.dropAs t .queueFull) := by
  unfold placeC
  rw [insert]
  dsimp only
  rw [startIfIdle_busy (k := .c) busy]

/-! ### A DEMAND (R169, R176) -/

theorem insertDemand_waiting {x : Axis} (waits : o.demandWaits x = true) (f : Frame) :
    insertDemand x f o.driveQueue = o.driveQueue.map fun e => if e.isDemandOf x then .demand x f else e := if_pos waits

theorem insertDemand_absent {x : Axis} (absent : o.demandWaits x = false) (f : Frame) :
    insertDemand x f o.driveQueue = o.driveQueue ++ [.demand x f] := if_neg (Bool.eq_false_iff.1 absent)

theorem sendDemand_closed (closed : t.ports.d.state = .closed) (x : Axis) (rate : Int) :
    o.sendDemand t v x rate = o.drop t v (dropOf .portClosed .d (demandFrame t x rate)) := if_pos closed

theorem sendDemand_placed (placed : t.ports.d.state ≠ .closed) (x : Axis) (rate : Int) : o.sendDemand t v x rate =
    ({ o with driveQueue := insertDemand x (demandFrame t x rate) o.driveQueue } : Output).startIfIdle t v .d :=
  if_neg placed

end Output

/-! ### Replies and events (R148, R186) -/

theorem resultCode_lt (r : Result) : resultCode r < 256 := by cases r <;> decide

theorem eventBit_getLsbD (k : EventKind) (j : Nat) : (eventBit k).getLsbD j = decide (j + 1 = eventCode k) := by
  have code : 1 ≤ eventCode k ∧ eventCode k ≤ 6 := by cases k <;> decide
  unfold eventBit
  rw [BitVec.getLsbD_twoPow, Bool.eq_iff_iff]
  simp only [Bool.and_eq_true, decide_eq_true_eq]
  omega

theorem Tables.enabled_iff (t : Tables) (k : EventKind) :
    t.enabled k = true ↔ t.report.enables &&& eventBit k ≠ 0 := decide_eq_true_iff

theorem Output.raise_enabled {t : Tables} {k : EventKind} (on : t.enabled k = true) (v ws : List Word) (o : Output) :
    o.raise t v k ws = (o.see k).placeC t v true ⟨.own, .frame (eventFrame t k ws)⟩ := if_pos on

theorem Output.raise_disabled {t : Tables} {k : EventKind} (off : ¬t.enabled k = true) (v ws : List Word)
    (o : Output) : o.raise t v k ws = o.see k := if_neg off

end Sys2Proof.Machine
end

section
/-! PROOFS. O48: placements, REPLYs and EVENTs (R148, R169, R171, R174, R176, R186). -/

namespace Sys2Proof.Machine

/-- Settles O48. -/
theorem placementsAsStated : Obligations.PlacementsAsStated := by
  refine ⟨fun t v x rate o => ⟨fun closed => ?_, fun placed => ⟨fun busy waits => ?_, fun busy absent => ?_,
      fun idle empty => ?_⟩⟩, fun t v urgent g f o idle hu hr => ?_, fun n k r ws p => ⟨⟨_, rfl, ?_⟩, rfl⟩,
    fun c k ws a => ⟨rfl, eventBit_getLsbD k, fun off => ?_, fun on => ?_⟩,
    fun t v urgent e o busy => ⟨fun room hu => ?_, fun room hu => ?_, fun full hu => ?_, fun full _ none_routine => ?_,
      fun full hu older newest last => ?_⟩⟩
  · rw [Output.sendDemand_closed closed]
    exact ⟨rfl, (Output.OnlyC.drop t v _ o).driveQueue⟩
  · rw [Output.sendDemand_placed placed, Output.insertDemand_waiting waits]
    exact Output.startIfIdle_busy (k := .d) busy
  · rw [Output.sendDemand_placed placed, Output.insertDemand_absent absent]
    exact Output.startIfIdle_busy (k := .d) busy
  · have alone : insertDemand x (demandFrame t x rate) o.driveQueue = [.demand x (demandFrame t x rate)] := by
      rw [empty]
      rfl
    rw [Output.sendDemand_placed placed, alone]
    exact Output.startIfIdle_first_drive idle empty _
  · exact Output.placeC_idle idle hu hr t v urgent _
  · have hk := kindCode_lt k
    have hr := resultCode_lt r
    rw [BitVec.toNat_ofNat]
    omega
  · exact congrArg (fun o => { a with out := o }) (Output.raise_disabled (mt (c.tab.enabled_iff k).1 off) _ ws a.out)
  · exact congrArg (fun o => { a with out := o }) (Output.raise_enabled ((c.tab.enabled_iff k).2 on) _ ws a.out)
  · exact (Output.placeC_busy busy room t v urgent e).trans (if_pos hu)
  · exact (Output.placeC_busy busy room t v urgent e).trans (if_neg (Bool.eq_false_iff.1 hu))
  · exact Output.placeC_busy_lost (Output.insertC_lost full (fun h => nomatch hu.symm.trans h) e) busy
  · exact Output.placeC_busy_lost (Output.insertC_lost full (fun _ => none_routine) e) busy
  · subst hu
    exact Output.placeC_busy_lost (Output.insertC_displaces full last e) busy

end Sys2Proof.Machine
end

section
/-! PROOFS. O49: a completed transmission (R164, R170, R172, R174). -/

namespace Sys2Proof.Machine

/-- R164: a completed transmission is counted as sent on its port. -/
theorem Output.sentOn_counters (o : Output) (k j : Port) : (o.sentOn k).counters.get j = if j = k then
    { o.counters.get j with sent := bumpTo 65535 (o.counters.get j).sent } else o.counters.get j := by
  split
  next same => subst same; exact PerPort.get_set_self _ _ _
  next other => exact PerPort.get_set_of_ne _ other _

/-- Settles O49. -/
theorem completionTakesNextFrame : Obligations.CompletionTakesNextFrame := by
  intro s k live o
  have run : exec (.transmissionComplete k) s = .next (s.settled { s.part with act := { s.part.act with
      out := o.complete s.part.tab (statusWords s.part.ctx s.part.act) k } }) := State.run_live live _
  refine ⟨fun idle => ?_, fun busy => ⟨_, run, fun j => ?_, ?_⟩⟩
  · rw [run, Output.complete_idle idle]
  · rw [Output.complete_busy busy, Output.takeNext_counters]
    exact o.sentOn_counters k j
  · rw [Output.complete_busy busy, Output.takeNext_counters]
    refine ⟨?_, ?_, ?_⟩
    all_goals rintro rfl
    · refine ⟨fun ⟨_, body⟩ rest hu => ?_, fun ⟨_, body⟩ rest hu hr => ?_,
        fun hu hr => Output.takeNext_noneC (o := o.sentOn .c) hu hr⟩
      · rw [Output.takeNext_urgent (o := o.sentOn .c) hu]
        cases body <;> rfl
      · rw [Output.takeNext_routine (o := o.sentOn .c) hu hr]
        cases body <;> rfl
    · exact ⟨fun e rest => Output.takeNext_drive (o := o.sentOn .d), Output.takeNext_noneD (o := o.sentOn .d)⟩
    · exact ⟨fun f rest => Output.takeNext_sensor (o := o.sentOn .s), Output.takeNext_noneS (o := o.sentOn .s)⟩

end Sys2Proof.Machine
end

section
/-! SUPPORT. One drop (R164, R166): what it counts, the records it leaves, and the event that it raises. -/

namespace Sys2Proof.Machine

/-! ### The counters (R164) -/

theorem Counters.bump_received (k : Counters) (reason : DropReason) : (k.bump reason).received = k.received := by
  cases reason <;> rfl

theorem Counters.bump_sent (k : Counters) (reason : DropReason) : (k.bump reason).sent = k.sent := by
  cases reason <;> rfl

theorem Counters.bump_of (k : Counters) (reason r : DropReason) :
    (k.bump reason).of r = if r = reason then bumpTo 65535 (k.of r) else k.of r := by
  cases reason <;> cases r <;> rfl

/-- R164: the drop counter of a reason goes up on one port. -/
def PerPort.countDrop (p : Port) (reason : DropReason) (t : PerPort Counters) : PerPort Counters :=
  t.set p ((t.get p).bump reason)

namespace PerPort

variable (p k : Port) (reason r : DropReason) (t : PerPort Counters)

theorem countDrop_received : ((t.countDrop p reason).get k).received = (t.get k).received := by
  unfold countDrop
  by_cases h : k = p
  · rw [h, get_set_self, Counters.bump_received]
  · rw [get_set_of_ne _ h]

theorem countDrop_sent : ((t.countDrop p reason).get k).sent = (t.get k).sent := by
  unfold countDrop
  by_cases h : k = p
  · rw [h, get_set_self, Counters.bump_sent]
  · rw [get_set_of_ne _ h]

theorem countDrop_of : ((t.countDrop p reason).get k).of r =
    if k = p ∧ r = reason then bumpTo 65535 ((t.get k).of r) else (t.get k).of r := by
  unfold countDrop
  by_cases h : k = p
  · simp only [h, get_set_self, Counters.bump_of, true_and]
  · simp only [get_set_of_ne _ h, h, false_and, if_false]

end PerPort

namespace Output

variable {o o' : Output} {t : Tables} {v : List Word} {d : DropRecord}

theorem countReceived_get (p k : Port) (o : Output) : (o.countReceived p).counters.get k = if k = p then
    { o.counters.get k with received := bumpTo 65535 (o.counters.get k).received } else o.counters.get k := by
  split
  next same => subst same; exact PerPort.get_set_self _ _ _
  next other => exact PerPort.get_set_of_ne _ other _

theorem countReceived_received (p k : Port) (o : Output) : ((o.countReceived p).counters.get k).received =
    if k = p then bumpTo 65535 (o.counters.get k).received else (o.counters.get k).received := by
  rw [countReceived_get, apply_ite Counters.received]

theorem countReceived_sent (p k : Port) (o : Output) :
    ((o.countReceived p).counters.get k).sent = (o.counters.get k).sent := by
  rw [countReceived_get]
  split <;> rfl

theorem countReceived_of (p k : Port) (r : DropReason) (o : Output) :
    ((o.countReceived p).counters.get k).of r = (o.counters.get k).of r := by
  rw [countReceived_get]
  split
  · cases r <;> rfl
  · rfl

/-! ### The record of a drop (R166) -/

theorem noteDrop_first (empty : o.dropA = none) (d : DropRecord) :
    o.noteDrop d = { o with counters := o.counters.countDrop d.port d.reason, dropA := some d } :=
  if_pos (by rw [empty]; rfl)

theorem noteDrop_later (filled : o.dropA.isSome = true) (d : DropRecord) : o.noteDrop d =
    { o with counters := o.counters.countDrop d.port d.reason, dropB := o.dropB.or (some d) } := by
  obtain ⟨_, _, _, _, _, _, dropA, dropB, _, _⟩ := o
  cases dropA with
  | none => cases filled
  | some _ => cases dropB <;> rfl

/-! ### An urgent placement that raises no event of its own -/

theorem insertC_room (room : o.waitingC < 16) (urgent : Bool) (e : CEntry) : (o.insertC urgent e).2 = none := by
  unfold insertC
  rw [Config.placesC, if_pos room]
  split <;> rfl

theorem insertC_full (full : 16 ≤ o.waitingC) (e : CEntry) : ∃ lost, (o.insertC true e).2 = some lost := by
  rcases List.eq_nil_or_concat o.routine with none_routine | ⟨older, newest, last⟩
  · exact ⟨_, congrArg Prod.snd (insertC_lost full (fun _ => none_routine) e)⟩
  · exact ⟨_, congrArg Prod.snd (insertC_displaces full (List.concat_eq_append ▸ last) e)⟩

theorem placeQuiet_room (room : o.waitingC < 16) (urgent : Bool) (e : CEntry) :
    o.placeQuiet t v urgent e = o.placeC t v urgent e := by
  unfold placeQuiet placeC
  dsimp only
  rw [insertC_room room]

theorem placeQuiet_busy_lost {urgent : Bool} {e lost : CEntry} (insert : o.insertC urgent e = (o', some lost))
    (busy : o'.tx.c.isSome = true) : o.placeQuiet t v urgent e = o'.noteDrop (lost.dropAs t .queueFull) := by
  unfold placeQuiet
  rw [insert]
  dsimp only
  rw [startIfIdle_busy (k := .c) busy]

/-- R171: an urgent frame costs one drop on port C, its own or a displaced frame's, where the queue is full. -/
theorem placeQuiet_counters (t : Tables) (v : List Word) (e : CEntry) (o : Output) :
    (o.placeQuiet t v true e).counters =
      if 16 ≤ o.waitingC then o.counters.countDrop .c .queueFull else o.counters := by
  have placed := (SameBooks.insertC true e o).trans (.startIfIdleC t v _)
  unfold placeQuiet
  by_cases full : 16 ≤ o.waitingC
  · obtain ⟨lost, h⟩ := insertC_full full e
    dsimp only
    rw [h, if_pos full]
    dsimp only
    rw [noteDrop_counters, placed.counters, CEntry.dropAs_port, CEntry.dropAs_reason]
    rfl
  · dsimp only
    rw [insertC_room (Nat.not_le.1 full), if_neg full]
    exact placed.counters

theorem insertC_dropB (urgent : Bool) (e : CEntry) (o : Output) : (o.insertC urgent e).1.dropB = o.dropB := by
  unfold insertC
  repeat' split
  all_goals rfl

theorem transmitC_dropB (t : Tables) (v : List Word) (e : CEntry) (o : Output) : (o.transmitC t v e).dropB = o.dropB := by
  unfold transmitC
  split <;> rfl

theorem startIfIdleC_dropB (t : Tables) (v : List Word) (o : Output) : (o.startIfIdle t v .c).dropB = o.dropB := by
  unfold startIfIdle
  split
  · simp only [takeNext]
    split
    · exact transmitC_dropB t v _ _
    · exact transmitC_dropB t v _ _
    · rfl
  · rfl

theorem placeQuiet_dropB (room : o.waitingC < 16) (t : Tables) (v : List Word) (urgent : Bool) (e : CEntry) :
    (o.placeQuiet t v urgent e).dropB = o.dropB := by
  unfold placeQuiet
  dsimp only
  rw [insertC_room room]
  exact (startIfIdleC_dropB t v _).trans (insertC_dropB urgent e o)

/-! ### One drop, with the event that it raises (R166) -/

/-- R166: the EVENT frame that tells of a drop. -/
def dropEvent (t : Tables) (d : DropRecord) : CEntry :=
  ⟨.own, .frame (eventFrame t .dropRecorded (dropWords (some d)))⟩

/-- R166: the drop fills record A, and DROP_RECORDED is among the events seen. -/
def recorded (d : DropRecord) (o : Output) : Output :=
  { o with
    counters := o.counters.countDrop d.port d.reason, dropA := some d, seen := o.seen ||| eventBit .dropRecorded }

theorem see_noteDrop (empty : o.dropA = none) (d : DropRecord) : (o.noteDrop d).see .dropRecorded = o.recorded d := by
  rw [noteDrop_first empty]
  rfl

theorem drop_later (filled : o.dropA.isSome = true) : o.drop t v d =
    { o with counters := o.counters.countDrop d.port d.reason, dropB := o.dropB.or (some d) } :=
  (if_neg (by rw [Option.isNone_iff_eq_none]; exact Option.isSome_iff_ne_none.1 filled)).trans (noteDrop_later filled d)

theorem drop_unannounced (empty : o.dropA = none) (off : t.enabled .dropRecorded = false) :
    o.drop t v d = o.recorded d :=
  ((if_pos (by rw [empty]; rfl)).trans (if_neg (Bool.eq_false_iff.1 off))).trans (see_noteDrop empty d)

theorem drop_announced (empty : o.dropA = none) (on : t.enabled .dropRecorded = true) :
    o.drop t v d = (o.recorded d).placeQuiet t v true (dropEvent t d) :=
  ((if_pos (by rw [empty]; rfl)).trans (if_pos on)).trans
    (congrArg (fun n => n.placeQuiet t v true (dropEvent t d)) (see_noteDrop empty d))

/-- R166: the drop raises the event DROP_RECORDED, and its EVENT is placed. -/
abbrev Announces (t : Tables) (o : Output) : Prop := o.dropA = none ∧ t.enabled .dropRecorded = true

theorem drop_of_not_announces (quiet : ¬o.Announces t) :
    o.drop t v d = o.recorded d ∨ o.drop t v d =
      { o with counters := o.counters.countDrop d.port d.reason, dropB := o.dropB.or (some d) } := by
  by_cases empty : o.dropA = none
  · exact .inl (drop_unannounced empty (Bool.eq_false_iff.2 fun on => quiet ⟨empty, on⟩))
  · exact .inr (drop_later (Option.isSome_iff_ne_none.2 empty))

/-- R164, R166: a drop is counted once, and costs a second one where its event finds no place. -/
theorem drop_counters_full (full : o.Announces t ∧ 16 ≤ o.waitingC) (v : List Word) (d : DropRecord) :
    (o.drop t v d).counters = (o.counters.countDrop d.port d.reason).countDrop .c .queueFull := by
  obtain ⟨⟨empty, on⟩, many⟩ := full
  rw [drop_announced empty on, placeQuiet_counters]
  exact if_pos many

theorem drop_counters_room (room : ¬(o.Announces t ∧ 16 ≤ o.waitingC)) (v : List Word) (d : DropRecord) :
    (o.drop t v d).counters = o.counters.countDrop d.port d.reason := by
  by_cases announces : o.Announces t
  · rw [drop_announced announces.1 announces.2, placeQuiet_counters]
    exact if_neg fun many => room ⟨announces, many⟩
  · exact (drop_of_not_announces announces).elim (congrArg Output.counters) (congrArg Output.counters)

theorem drop_received (t : Tables) (v : List Word) (d : DropRecord) (k : Port) (o : Output) :
    ((o.drop t v d).counters.get k).received = (o.counters.get k).received := by
  by_cases full : o.Announces t ∧ 16 ≤ o.waitingC
  · rw [drop_counters_full full, PerPort.countDrop_received, PerPort.countDrop_received]
  · rw [drop_counters_room full, PerPort.countDrop_received]

theorem drop_sent (t : Tables) (v : List Word) (d : DropRecord) (k : Port) (o : Output) :
    ((o.drop t v d).counters.get k).sent = (o.counters.get k).sent := by
  by_cases full : o.Announces t ∧ 16 ≤ o.waitingC
  · rw [drop_counters_full full, PerPort.countDrop_sent, PerPort.countDrop_sent]
  · rw [drop_counters_room full, PerPort.countDrop_sent]

/-- R164: which drop counters a drop that is not itself a QUEUE_FULL counts. -/
theorem drop_of (reason : d.reason ≠ .queueFull) (t : Tables) (v : List Word) (k : Port) (r : DropReason) (o : Output) :
    ((o.drop t v d).counters.get k).of r =
      if (k = d.port ∧ r = d.reason) ∨ (k = .c ∧ r = .queueFull ∧ o.Announces t ∧ 16 ≤ o.waitingC)
      then bumpTo 65535 ((o.counters.get k).of r) else (o.counters.get k).of r := by
  by_cases full : o.Announces t ∧ 16 ≤ o.waitingC
  · rw [drop_counters_full full, PerPort.countDrop_of, PerPort.countDrop_of]
    by_cases lost : k = .c ∧ r = .queueFull
    · have other : ¬(k = d.port ∧ r = d.reason) := fun h => reason (h.2.symm.trans lost.2)
      rw [if_pos lost, if_neg other, if_pos (.inr ⟨lost.1, lost.2, full⟩)]
    · rw [if_neg lost]
      exact if_congr (or_iff_left fun h => lost ⟨h.1, h.2.1⟩).symm rfl rfl
  · rw [drop_counters_room full, PerPort.countDrop_of]
    exact if_congr (or_iff_left fun h => full h.2.2).symm rfl rfl

theorem drop_dropB_room (empty : o.dropA = none) (room : ¬(o.Announces t ∧ 16 ≤ o.waitingC)) (v : List Word)
    (d : DropRecord) : (o.drop t v d).dropB = o.dropB := by
  by_cases on : t.enabled .dropRecorded = true
  · rw [drop_announced empty on]
    exact placeQuiet_dropB (o := o.recorded d) (Nat.not_le.1 fun many => room ⟨⟨empty, on⟩, many⟩) t v _ _
  · rw [drop_unannounced empty (Bool.eq_false_iff.2 on)]
    rfl

/-- R166: a drop that raises no event leaves port C as it was. -/
theorem drop_portC (quiet : ¬o.Announces t) (v : List Word) (d : DropRecord) :
    (o.drop t v d).urgent = o.urgent ∧ (o.drop t v d).routine = o.routine ∧ (o.drop t v d).tx = o.tx := by
  rcases drop_of_not_announces (v := v) (d := d) quiet with h | h <;> rw [h] <;> exact ⟨rfl, rfl, rfl⟩

/-- R166, R171: the EVENT of a drop waits behind the urgent frames of a busy port C. -/
theorem drop_busy (announces : o.Announces t) (busy : o.tx.c.isSome = true) (room : o.waitingC < 16) (v : List Word)
    (d : DropRecord) : o.drop t v d = { o.recorded d with urgent := o.urgent ++ [dropEvent t d] } := by
  rw [drop_announced announces.1 announces.2, placeQuiet_room (o := o.recorded d) room]
  exact placeC_busy (o := o.recorded d) busy room t v true _

/-- R166, R172: DROP_RECORDED is among the events seen after the drop that fills record A. -/
theorem drop_seen (empty : o.dropA = none) (h : o.UrgentFrames) (t : Tables) (v : List Word) (d : DropRecord) :
    (o.drop t v d).Seen .dropRecorded := by
  have seen : (o.recorded d).Seen .dropRecorded := see_noteDrop empty d ▸ seen_see .dropRecorded _
  by_cases on : t.enabled .dropRecorded = true
  · rw [drop_announced empty on]
    unfold Seen
    rw [placeQuiet_seen (o := o.recorded d) h (by simp [dropEvent, CEntry.isStatus])]
    exact seen
  · rw [drop_unannounced empty (Bool.eq_false_iff.2 on)]
    exact seen

theorem drop_seen_later (filled : o.dropA.isSome = true) (t : Tables) (v : List Word) (d : DropRecord) :
    (o.drop t v d).seen = o.seen := by
  rw [drop_later filled]

/-- R166, R171: the EVENT of a drop at a full and busy port C costs one drop there, which record B keeps. -/
theorem drop_busy_lost (announces : o.Announces t) {lost : CEntry}
    (insert : (o.recorded d).insertC true (dropEvent t d) = (o', some lost)) (busy : o'.tx.c.isSome = true)
    (filled : o'.dropA.isSome = true) : o.drop t v d =
      { o' with
        counters := o'.counters.countDrop .c .queueFull, dropB := o'.dropB.or (some (lost.dropAs t .queueFull)) } := by
  rw [drop_announced announces.1 announces.2, placeQuiet_busy_lost insert busy, noteDrop_later filled,
    CEntry.dropAs_port, CEntry.dropAs_reason]

end Output

end Sys2Proof.Machine
end

section
/-! SUPPORT. The checks of an arrival (R145, R158, R159), and the arrivals that they drop. -/

namespace Sys2Proof.Machine

/-! ### The form of a frame (R145) -/

theorem driveStateOf_isSome (i : Int) : (driveStateOf i).isSome = true ↔ 0 ≤ i ∧ i ≤ 2 := by
  unfold driveStateOf
  split
  case h_4 not0 not1 not2 =>
    have h0 : i ≠ 0 := not0
    have h1 : i ≠ 1 := not1
    have h2 : i ≠ 2 := not2
    simp only [Option.isSome_none, Bool.false_eq_true, false_iff]
    omega
  all_goals decide

theorem samplePairsOk_pair (id v : Word) (rest : List Word) : samplePairsOk (id :: v :: rest) = true ↔
    0 ≤ id.toInt ∧ id.toInt ≤ 23 ∧ id.toInt ≠ 11 ∧ samplePairsOk rest = true := by
  have below : id.toInt < 24 ↔ id.toInt ≤ 23 := by omega
  simp only [samplePairsOk, Bool.and_eq_true, decide_eq_true_eq, and_assoc, below]

/-- R145: the payload that the kind of a frame asks for. -/
def Frame.payloadOk (f : Frame) : Prop :=
  (f.kind = .sample → f.payload ≠ [] ∧ samplePairsOk f.payload = true)
    ∧ (f.kind = .driveStatus → ∃ st cause, f.payload = [st, cause] ∧ 0 ≤ st.toInt ∧ st.toInt ≤ 2)
    ∧ (f.kind = .demand → f.payload.length = 1)

theorem formOk_iff (own : Node) (f : Frame) : formOk own f = true ↔
    f.payload.length ≤ 14 ∧ f.src.val ≠ 31 ∧ f.src ≠ own ∧ f.payloadOk := by
  obtain ⟨dst, src, prio, kind, ws⟩ := f
  simp only [formOk, Frame.payloadOk, Bool.and_eq_true, decide_eq_true_eq, and_assoc]
  refine and_congr Iff.rfl (and_congr_right fun _ => and_congr_right fun _ => ?_)
  cases kind
  case driveStatus =>
    match ws with
    | [st, cause] => simpa using driveStateOf_isSome st.toInt
    | [] => simp
    | [_] => simp
    | _ :: _ :: _ :: _ => simp
  all_goals simp

/-! ### The steps of the check (R158, R159) -/

theorem Part.arrivalCheck_eq (p : Part) (port : Port) (f : Frame) : p.arrivalCheck port f =
    if formOk p.tab.own f = false then some .badForm
    else if (p.tab.ports.get port).state = .closed then some .portClosed
    else if (p.tab.node f.src).present = false then some .unknownSource
    else if (p.tab.node f.src).port ≠ port then some .wrongPort
    else if kindAllowed (p.tab.node f.src) f.kind (p.tab.bound port f.dst) = false then some .kindNotAllowed
    else if p.sen.meters[f.src] < 1000 then some .overRate
    else none := by
  simp only [Part.arrivalCheck, Bool.not_eq_true']
  rfl

/-- R158: the checks of an arrival drop it for a reason of their own. -/
theorem Part.arrivalCheck_reason {p : Part} {port : Port} {f : Frame} {r : DropReason}
    (h : p.arrivalCheck port f = some r) : r ≠ .unknownDest ∧ r ≠ .queueFull := by
  unfold Part.arrivalCheck at h
  dsimp only at h
  repeat' split at h
  all_goals cases h
  all_goals exact ⟨nofun, nofun⟩

theorem Tables.bound_part {t : Tables} {port : Port} {dst : Node} (h : dst.val = 31 ∨ dst = t.own) :
    t.bound port dst = .part := if_pos h

theorem Tables.bound_other {t : Tables} {port : Port} {dst : Node} (not31 : dst.val ≠ 31) (not_own : dst ≠ t.own) :
    t.bound port dst = if !(t.node dst).present then .nowhere
      else if (t.node dst).port = port then .local else .far (t.node dst) := if_neg (not_or.2 ⟨not31, not_own⟩)

theorem Role.jogs_iff (r : Role) : r.jogs = true ↔ r = .maint ∨ r = .console := by
  simp only [Role.jogs, Bool.or_eq_true, decide_eq_true_eq]

theorem kindAllowed_far (src dst : NodeEntry) (k : Kind) : kindAllowed src k (.far dst) = true ↔
    (k = .demand ∧ (src.role = .maint ∨ src.role = .console) ∧ dst.role = .drive)
      ∨ (k = .nodeData ∧ ((src.role = .maint ∧ dst.port ≠ .c)
        ∨ ((src.role = .sensor ∨ src.role = .drive) ∧ dst.port = .c))) := by
  simp only [kindAllowed, Bool.or_eq_true, Bool.and_eq_true, decide_eq_true_eq, Role.jogs_iff, and_assoc]

theorem kindAllowed_nowhere (src : NodeEntry) (k : Kind) : kindAllowed src k .nowhere = true ↔
    k ∈ src.role.kinds ∨ (k = .demand ∧ (src.role = .maint ∨ src.role = .console))
      ∨ (k = .nodeData ∧ (src.role = .maint ∨ src.role = .sensor ∨ src.role = .drive)) := by
  simp only [kindAllowed, Bool.or_eq_true, Bool.and_eq_true, decide_eq_true_eq, Role.jogs_iff, or_assoc]

/-! ### A dropped arrival (R158, R162, log 7) -/

/-- R162: a frame for a destination that is not present is dropped after its tokens are spent. -/
theorem Part.arrive_nowhere {p : Part} {port : Port} {f : Frame}
    (passes : (p.received port).arrivalCheck port f = none) (nowhere : p.tab.bound port f.dst = .nowhere) :
    p.arrive port f =
      ({ p.received port with sen := p.sen.spend f.src } : Part).drop (dropOf .unknownDest port f) := by
  have bound : ({ p.received port with sen := p.sen.spend f.src } : Part).tab.bound port f.dst = .nowhere := nowhere
  have routed : ({ p.received port with sen := p.sen.spend f.src } : Part).route port f =
      ({ p.received port with sen := p.sen.spend f.src } : Part).drop (dropOf .unknownDest port f) := by
    unfold Part.route
    rw [bound]
  unfold Part.arrive
  simp only [passes]
  exact routed

/-- R158, R161: the part as an arrival leaves it before it is dropped: it is counted, and its tokens are spent where
it has passed the checks. -/
def Part.refusing (port : Port) (d : DropRecord) (p : Part) : Part :=
  { p.received port with sen := if d.reason = .unknownDest then p.sen.spend d.source else p.sen }

/-- R158, R162: the commands whose arrival at a port is dropped with the record `d`. -/
def Part.DropsAs (p : Part) (c : Instr) (port : Port) (d : DropRecord) : Prop :=
  (∃ framing words, c = .frameDropped port framing words ∧ readWords framing words = none
      ∧ d = { reason := .badForm, port := port, source := receivedSource words, kind := receivedKind words })
    ∨ ∃ f, c.arrival = some (port, f)
      ∧ ((p.received port).arrivalCheck port f = some d.reason
        ∨ ((p.received port).arrivalCheck port f = none ∧ p.tab.bound port f.dst = .nowhere
          ∧ d.reason = .unknownDest))
      ∧ d.port = port ∧ d.source = f.src ∧ d.kind = kindCode f.kind

/-- R21: the pin levels that come with a command are all it shows of itself before it arrives. -/
theorem Part.seenBy_eq (p : Part) (c : Instr) : ∃ pins, c.seenBy p = p.seePins pins := by
  cases c
  case tableWriteLine _ pins _ _ => exact ⟨pins, rfl⟩
  all_goals exact ⟨p.sen.pins, rfl⟩

theorem Part.DropsAs.port {c : Instr} {p : Part} {port : Port} {d : DropRecord} (h : p.DropsAs c port d) :
    d.port = port := by
  rcases h with ⟨_, _, _, _, rfl⟩ | ⟨_, _, _, hp, _⟩
  · rfl
  · exact hp

theorem Part.DropsAs.reason {c : Instr} {p : Part} {port : Port} {d : DropRecord} (h : p.DropsAs c port d) :
    d.reason ≠ .queueFull := by
  rcases h with ⟨_, _, _, _, rfl⟩ | ⟨_, _, fails | ⟨_, _, hr⟩, _⟩
  · exact nofun
  · exact (Part.arrivalCheck_reason fails).2
  · rw [hr]
    exact nofun

/-- R158, R162: such an arrival is counted, metered where it has passed the checks, and dropped. -/
theorem exec_dropsAs {c : Instr} {s : State} {port : Port} {d : DropRecord} (live : s.part.sen.held = false)
    (h : s.part.DropsAs c port d) :
    exec c s = .next (s.settled (((c.seenBy s.part).refusing port d).drop d)) := by
  rcases h with ⟨framing, words, rfl, unread, rfl⟩ | ⟨f, arrival, why, hp, hs, hk⟩
  · refine (State.run_live live _).trans ?_
    unfold Part.arriveWords
    rw [unread]
    rfl
  · obtain ⟨pins, seen⟩ := s.part.seenBy_eq c
    rw [exec_arrival arrival, State.run_live live, seen]
    obtain ⟨reason, _, _, _⟩ := d
    subst hp hs hk
    rcases why with fails | ⟨passes, nowhere, rfl⟩
    · rw [Part.arrive_dropped (p := s.part.seePins pins) fails, Part.refusing, if_neg (Part.arrivalCheck_reason fails).1]
      rfl
    · rw [Part.arrive_nowhere (p := s.part.seePins pins) passes nowhere]
      rfl

end Sys2Proof.Machine
end

section
/-! PROOFS. O46: the checks of an arrival, and a dropped one (R145, R158, R159, R162, R164, R166). -/

namespace Sys2Proof.Machine

/-- Settles O46. -/
theorem droppedFrameOnlyCounts : Obligations.DroppedFrameOnlyCounts := by
  refine ⟨fun s c port d live drops => ?_, Part.arrivalCheck_eq, formOk_iff, ⟨rfl, fun _ => rfl, samplePairsOk_pair⟩,
    ⟨rfl, rfl, fun _ _ => ⟨rfl, rfl⟩, fun _ _ _ => rfl⟩, fun t v d o => ?_,
    fun k reason => ⟨k.bump_received reason, k.bump_sent reason, k.bump_of reason⟩, fun t port dst => ?_,
    fun src k => ⟨decide_eq_true_iff, rfl, fun dst => kindAllowed_far src dst k, kindAllowed_nowhere src k⟩, fun k => ?_⟩
  · replace drops : s.part.DropsAs c port d := drops
    have run := exec_dropsAs live drops
    obtain rfl := drops.port
    obtain ⟨pins, seen⟩ := s.part.seenBy_eq c
    rw [seen] at run ⊢
    intro p sen old q event raised full
    have onlyC := Output.OnlyC.drop q.tab (statusWords q.ctx q.act) d q.act.out
    refine ⟨q.act.out.drop q.tab (statusWords q.ctx q.act) d, run, rfl, Output.drop_dropA _ _ d _,
      fun filled => congrArg Output.dropB (Output.drop_later (o := q.act.out) filled),
      fun empty room => Output.drop_dropB_room (o := q.act.out) empty room _ d,
      fun k => (Output.drop_received _ _ d k _).trans (old.countReceived_received d.port k),
      fun k => (Output.drop_sent _ _ d k _).trans (old.countReceived_sent d.port k), fun k r => ?_,
      fun quiet => Output.drop_portC (o := q.act.out) quiet _ d, fun announces busy room => ?_,
      fun filled => Output.drop_seen_later (o := q.act.out) filled _ _ d,
      fun empty frames => Output.drop_seen (o := q.act.out) empty (.of_countP frames) _ _ d,
      onlyC.txS, onlyC.txD, onlyC.driveQueue, onlyC.sensorQueue, onlyC.statusTimer⟩
    · have counted := Output.drop_of drops.reason q.tab (statusWords q.ctx q.act) k r q.act.out
      rwa [show (q.act.out.counters.get k).of r = (old.counters.get k).of r from
        old.countReceived_of d.port k r] at counted
    · rw [Output.drop_busy (t := q.tab) (o := q.act.out) announces busy room]
      exact ⟨rfl, rfl, rfl⟩
  · intro counted event seen new lose
    refine ⟨Output.drop_later, fun empty => ⟨Output.drop_unannounced empty, fun on => ⟨fun room => ?_,
      fun full busy none_routine => ?_, fun full busy older newest last => ?_⟩⟩⟩
    · exact (Output.drop_announced empty on).trans (Output.placeQuiet_room (o := o.recorded d) room true _)
    · exact Output.drop_busy_lost ⟨empty, on⟩
        (Output.insertC_lost (o := o.recorded d) full (fun _ => none_routine) _) busy rfl
    · exact Output.drop_busy_lost ⟨empty, on⟩ (Output.insertC_displaces (o := o.recorded d) full last _) busy rfl
  · refine ⟨Tables.bound_part, fun not31 not_own => ?_⟩
    rw [Tables.bound_other not31 not_own]
    exact ⟨fun absent => by simp [absent], fun present same => by simp [present, same],
      fun present other => by simp [present, other]⟩
  · cases k <;> decide

end Sys2Proof.Machine
end

section
/-! SUPPORT. The routing of an admitted frame that the part does not consume (R162), and the queues into which it is
forwarded (R169, R173). -/

namespace Sys2Proof.Machine

namespace Output

variable {o : Output} {t : Tables} {v : List Word} {f : Frame}

/-! ### Port S (R173) -/

theorem forward_sensor_busy (busy : o.tx.s.isSome = true) (room : o.sensorQueue.length < 4) :
    o.forward t v .s f = { o with sensorQueue := o.sensorQueue ++ [f] } :=
  (if_pos room).trans (startIfIdle_busy (o := { o with sensorQueue := o.sensorQueue ++ [f] }) (k := .s) busy)

theorem forward_sensor_idle (idle : o.tx.s = none) (empty : o.sensorQueue = []) :
    o.forward t v .s f = { o with tx := { o.tx with s := some ⟨f, frameTime f⟩ } } := by
  have alone : o.sensorQueue ++ [f] = [f] := congrArg (· ++ [f]) empty
  refine (if_pos (by rw [empty]; decide)).trans ?_
  rw [alone]
  exact startIfIdle_first_sensor idle empty f

theorem forward_sensor_full (full : 4 ≤ o.sensorQueue.length) :
    o.forward t v .s f = o.drop t v (dropOf .queueFull .s f) := if_neg (Nat.not_lt.2 full)

/-! ### Port D (R169) -/

theorem forward_drive_busy (busy : o.tx.d.isSome = true) (room : o.driveQueue.countP DEntry.isData < 5) :
    o.forward t v .d f = { o with driveQueue := o.driveQueue ++ [.data f] } :=
  (if_pos (List.countP_eq_length_filter ▸ room)).trans
    (startIfIdle_busy (o := { o with driveQueue := o.driveQueue ++ [.data f] }) (k := .d) busy)

theorem forward_drive_idle (idle : o.tx.d = none) (empty : o.driveQueue = []) :
    o.forward t v .d f = { o with tx := { o.tx with d := some ⟨f, frameTime f⟩ } } := by
  have alone : o.driveQueue ++ [DEntry.data f] = [.data f] := congrArg (· ++ [DEntry.data f]) empty
  refine (if_pos (by rw [empty]; decide)).trans ?_
  rw [alone]
  exact startIfIdle_first_drive idle empty (.data f)

theorem forward_drive_full (full : 5 ≤ o.driveQueue.countP DEntry.isData) :
    o.forward t v .d f = o.drop t v (dropOf .queueFull .d f) :=
  if_neg (Nat.not_lt.2 (List.countP_eq_length_filter ▸ full))

/-! ### Port C (R153, R171) -/

theorem forward_urgent (busy : o.tx.c.isSome = true) (room : o.waitingC < 16) (urgent : t.urgentByMask f = true) :
    o.forward t v .c f = { o with urgent := o.urgent ++ [⟨.forwarded, .frame f⟩] } :=
  (placeC_busy busy room t v _ _).trans (if_pos urgent)

theorem forward_routine (busy : o.tx.c.isSome = true) (room : o.waitingC < 16) (routine : t.urgentByMask f = false) :
    o.forward t v .c f = { o with routine := o.routine ++ [⟨.forwarded, .frame f⟩] } :=
  (placeC_busy busy room t v _ _).trans (if_neg (Bool.eq_false_iff.1 routine))

/-! ### Full queues -/

/-- R169, R173: where the port's queue has no place left for NODE_DATA. -/
def FullFor (k : Port) (o : Output) : Prop :=
  (k = .s ∧ 4 ≤ o.sensorQueue.length) ∨ (k = .d ∧ 5 ≤ o.driveQueue.countP DEntry.isData)

theorem forward_full {k : Port} (full : o.FullFor k) : o.forward t v k f = o.drop t v (dropOf .queueFull k f) := by
  rcases full with ⟨rfl, many⟩ | ⟨rfl, many⟩
  · exact forward_sensor_full many
  · exact forward_drive_full many

end Output

namespace Part

variable {p : Part} {port dest : Port} {f : Frame}

/-- R162, case 2: traffic between two nodes of one segment is counted and metered. -/
theorem arrive_local (admits : p.admits port f) (bound : p.tab.bound port f.dst = .local) :
    p.arrive port f = p.entered port f.src := by
  have entered : (p.entered port f.src).tab.bound port f.dst = .local := bound
  rw [arrive_admitted admits (by rw [bound]; rfl), route, entered]

/-- R162, case 4: an admitted frame, no DEMAND, for a node on another port. -/
theorem arrive_far {e : NodeEntry} (admits : p.admits port f) (far : p.tab.bound port f.dst = .far e)
    (allowed : kindAllowed (p.tab.node f.src) f.kind (.far e) = true) (kind : f.kind ≠ .demand) :
    p.arrive port f = (p.entered port f.src).forward port e.port f := by
  have entered : (p.entered port f.src).tab.bound port f.dst = .far e := far
  rw [arrive_admitted admits (far.symm ▸ allowed), route, entered]
  exact if_neg kind

theorem forward_closed (closed : (p.tab.ports.get port).state = .listen ∨ (p.tab.ports.get dest).state ≠ .opened) :
    p.forward port dest f = p.drop (dropOf .portClosed port f) := if_pos closed

theorem forward_opened
    (opened : ¬((p.tab.ports.get port).state = .listen ∨ (p.tab.ports.get dest).state ≠ .opened)) :
    p.forward port dest f = p.acting fun c a => a.emit c fun t v o => o.forward t v dest (p.tab.rewrite f) :=
  if_neg opened

/-- R175: whether the copy of a SAMPLE or of a DRIVE_STATUS is offered to port C. -/
theorem mirrors_iff (kind : f.kind = .sample ∨ f.kind = .driveStatus) : p.mirrors port f = true ↔
    (p.tab.node f.src).mirror = true ∧ port ≠ .c ∧ p.tab.ports.c.state = .opened := by
  simp only [mirrors, Bool.and_eq_true, Bool.or_eq_true, decide_eq_true_eq, kind, true_and, and_assoc]

end Part

end Sys2Proof.Machine
end

section
/-! PROOFS. O47: local traffic, NODE_DATA for another port, and mirrored copies (R152, R162, R163, R169, R173, R175). -/

namespace Sys2Proof.Machine

/-- Settles O47. -/
theorem framesIgnoredAndForwarded : Obligations.FramesIgnoredAndForwarded := by
  refine ⟨fun s h k ws live admits bound => ?_, fun s h ws e live admits far allowed => ?_,
    fun s h k c ws consumes row => ?_⟩
  · exact (State.run_live live _).trans
      (congrArg (fun p => Host.Outcome.next (s.settled p)) (Part.arrive_local admits bound))
  · intro p f f' closed busy
    have run : exec (.nodeDataForward h ws) s = .next (s.settled (p.forward h.port e.port f)) :=
      (State.run_live live _).trans
        (congrArg (fun p => Host.Outcome.next (s.settled p)) (Part.arrive_far admits far allowed fun h => nomatch h))
    refine ⟨fun shut => ?_, fun opened => ?_⟩
    · rw [run, Part.forward_closed (p := p) shut]
    · rw [Part.forward_opened (p := p) opened] at run
      refine ⟨p.act.out.forward p.tab (statusWords p.ctx p.act) e.port f', run, ?_⟩
      have busy_on : ∀ {k}, e.port = k → busy → (p.act.out.tx.get k).isSome = true := fun hk hb => hk ▸ hb
      have idle_on : ∀ {k}, e.port = k → ¬busy → p.act.out.tx.get k = none :=
        fun hk hi => hk ▸ Option.not_isSome_iff_eq_none.1 hi
      have into : ∀ {k}, e.port = k → p.act.out.forward p.tab (statusWords p.ctx p.act) e.port f' =
          p.act.out.forward p.tab (statusWords p.ctx p.act) k f' := fun hk => hk ▸ rfl
      refine ⟨into, fun hs room => ⟨fun hb => ?_, fun hi empty => ?_⟩, fun hd room => ⟨fun hb => ?_, fun hi empty => ?_⟩,
        fun full => ?_, fun hc hb room => ⟨fun urgent => ?_, fun routine => ?_⟩⟩
      · exact (into hs).trans (Output.forward_sensor_busy (o := p.act.out) (busy_on hs hb) room)
      · exact (into hs).trans (Output.forward_sensor_idle (o := p.act.out) (idle_on hs hi) empty)
      · exact (into hd).trans (Output.forward_drive_busy (o := p.act.out) (busy_on hd hb) room)
      · exact (into hd).trans (Output.forward_drive_idle (o := p.act.out) (idle_on hd hi) empty)
      · rw [Output.forward_full (o := p.act.out) full]
        have onlyC := Output.OnlyC.drop p.tab (statusWords p.ctx p.act) (dropOf .queueFull e.port f') p.act.out
        exact ⟨rfl, onlyC.sensorQueue, onlyC.driveQueue, Output.drop_dropA _ _ _ p.act.out⟩
      · rw [into hc, Output.forward_urgent (t := p.tab) (o := p.act.out) (busy_on hc hb) room urgent]
        exact ⟨rfl, rfl⟩
      · rw [into hc, Output.forward_routine (t := p.tab) (o := p.act.out) (busy_on hc hb) room routine]
        exact ⟨rfl, rfl⟩
  · have run : exec c s = .next (s.settled ((s.entered h).consume h.port (frameOf h k ws))) := by
      rcases row with ⟨rfl, rfl⟩ | ⟨rfl, rfl⟩
      · exact State.run_consumed consumes
      · exact State.run_consumed consumes
    have copied := Part.mirrors_iff (p := s.entered h) (port := h.port) (f := frameOf h k ws) (row.imp And.left And.left)
    intro f copy q mirrored
    refine ⟨fun plain => ?_, fun offered => ?_⟩
    · rw [run]
      exact congrArg (fun n => Host.Outcome.next (s.settled n)) (if_neg (mt copied.1 plain))
    · rw [run]
      exact congrArg (fun n => Host.Outcome.next (s.settled n)) (if_pos (copied.2 offered))

end Sys2Proof.Machine
end

section
/-! PROOFS. O45: the refill of the meters, and the tokens an admitted frame spends (R160, R161). -/

namespace Sys2Proof.Machine

/-- R160: the meter of a present node gains its rate times 10, up to its burst times 1000. -/
theorem NodeEntry.refill_eq (e : NodeEntry) (tokens : Nat) : e.refill tokens =
    if e.present then min (tokens + e.rate * 10) (e.burst * 1000) else tokens := by
  unfold NodeEntry.refill NodeEntry.capacity
  split <;> rfl

/-- The meters that a refill leaves. -/
def Part.refilledMeters (p : Part) : Vector Nat 32 := Vector.ofFn fun n => (p.tab.node n).refill p.sen.meters[n]

theorem Part.refilledMeters_get (p : Part) (n : Fin 32) :
    p.refilledMeters[n] = (p.tab.node n).refill p.sen.meters[n] := Vector.getElem_ofFn _

/-- R160: the refill acts on the timer and the meters alone. -/
theorem Part.refill_running {p : Part} (h : p.sen.refillTimer.isSome = true) :
    p.refill = { p with sen := { p.sen with refillTimer := some 10000, meters := p.refilledMeters } } :=
  if_neg (by rw [Option.isNone_iff_eq_none]; exact Option.isSome_iff_ne_none.1 h)

/-- R161: the source's meter pays for the frame, and no other. -/
theorem Sensed.spend_meters (s : Sensed) (n k : Fin 32) :
    (s.spend n).meters[k] = if k = n then s.meters[k] - 1000 else s.meters[k] := by
  by_cases source : k = n
  · rw [if_pos source, source]
    exact vector_set_self s.meters n _
  · rw [if_neg source]
    exact vector_set_of_ne s.meters source _

/-- Settles O45. -/
theorem metersRefillAndSpend : Obligations.MetersRefillAndSpend := by
  refine ⟨fun s live running => ⟨s.part.refilledMeters, ?_, fun n => ?_⟩,
    fun s h n => s.part.sen.spend_meters h.src n⟩
  · exact (State.run_live live _).trans
      (congrArg (fun p => Host.Outcome.next (s.settled p)) (Part.refill_running running))
  · exact (s.part.refilledMeters_get n).trans ((s.part.tab.node n).refill_eq _)

end Sys2Proof.Machine
end

section
/-! PROOFS. O51: READ_COUNTERS and READ_DROPS (R165, R167). -/

namespace Sys2Proof.Machine

/-- R165: the counters of the port that is named are read, and set to 0. -/
theorem Part.readCounters_named {w : Word} {k : Port} (h : portOf w.toInt = some k) (p : Part) :
    p.readCounters [w] =
      ({ p with act := { p.act with out := { p.act.out with
          counters := p.act.out.counters.set k Counters.zero } } },
        .done, (p.act.out.counters.get k).words) := by
  simp only [Part.readCounters, h]

/-- R167: both drop records are read, and emptied. -/
theorem Part.readDrops_bare (p : Part) :
    p.readDrops [] = ({ p with act := { p.act with out := { p.act.out with dropA := none, dropB := none } } },
      .done, dropWords p.act.out.dropA ++ dropWords p.act.out.dropB) := if_neg (not_not_intro rfl)

/-- A read that the part consumes is answered with the words it reads. -/
theorem exec_reported {c : Instr} {s : State} {h : Header} {k : Kind} {ws words : List Word} {q : Part} {r : Result}
    (arrival : c.arrival = some (h.port, frameOf h k ws)) (consumes : s.part.consumes h k ws)
    (notSample : k ≠ .sample) (notDrive : k ≠ .driveStatus)
    (take : (c.seenBy (s.entered h)).take (frameOf h k ws) = reporting (frameOf h k ws) (q, r, words)) :
    exec c s = .next (s.settled (Part.reply h.src k r words q)) := by
  rw [exec_taken arrival consumes notSample notDrive, take]
  rfl

/-- Settles O51. -/
theorem countersAndDropsReadClear : Obligations.CountersAndDropsReadClear := by
  refine ⟨fun s h w k consumes named => ?_, fun s h w consumes outside => ?_, rfl, fun d => rfl, fun k => rfl,
    fun s h consumes => ?_⟩
  · exact exec_reported rfl consumes nofun nofun
      (congrArg (reporting (frameOf h .readCounters [w])) (Part.readCounters_named named (s.entered h)))
  · have malformed : Malformed [w] .readCounters := fun v same => by
      cases same
      exact outside
    exact exec_answered rfl consumes nofun nofun (Part.take_malformed malformed h _)
  · exact exec_reported rfl consumes nofun nofun
      (congrArg (reporting (frameOf h .readDrops [])) (s.entered h).readDrops_bare)

end Sys2Proof.Machine
end

section
/-! PROOFS. O7: the part held in reset (R180, log 10). -/

namespace Sys2Proof.Machine

/-- R180: while the reset input is held low a command has no effect, whatever it would do to a part that runs. -/
theorem State.run_held {s : State} (held : s.part.sen.held = true) (f : Part → Part) : s.run f = .next s := by
  have kept : s.part.live f = s.part := if_pos held
  unfold State.run
  rw [kept]

/-- Every command but those of the reset input acts on a live part alone: a frame row as the arrival of its frame,
the words of a FRAME_DROPPED that read as no frame, a timer, or a sampling instant. -/
theorem exec_eq_run {c : Instr} (notAsserted : c ≠ .resetInputAsserted)
    (notPowerOn : ∀ straps pins, c ≠ .powerOnReset straps pins) : ∃ f : Part → Part, ∀ s, exec c s = s.run f := by
  cases arrival : c.arrival with
  | some pf => exact ⟨_, exec_arrival arrival⟩
  | none =>
    cases c
    case resetInputAsserted => exact absurd rfl notAsserted
    case powerOnReset straps pins => exact absurd rfl (notPowerOn straps pins)
    case frameDropped | ageExpiry | filteredLevelChange | inputSample | updateExpiry | jogTimerExpiry
        | stallTimerExpiry | driveAgeExpiry | suspendTimerExpiry | phaseTimerExpiry | refillTimerExpiry
        | statusTimerExpiry | transmissionComplete =>
      exact ⟨_, fun _ => rfl⟩
    all_goals cases arrival

/-- Settles O7: the reset input cuts every transmission, and a part that it holds runs nothing. -/
theorem heldPartTakesNothing : Obligations.HeldPartTakesNothing := by
  refine ⟨fun s => ⟨{ s with part := s.part.hold }, rfl, rfl, rfl, rfl, rfl, rfl⟩,
    fun c s held notAsserted notPowerOn => ?_⟩
  obtain ⟨f, runs⟩ := exec_eq_run notAsserted notPowerOn
  exact (runs s).trans (State.run_held held f)

end Sys2Proof.Machine
end

section
/-! PROOFS. O1: the command at the front of the queue, and the next state of every command. -/

namespace Sys2Proof.Machine

theorem step_pending {s : State} {c : Instr} {rest : List Instr} (waiting : s.pending = c :: rest) :
    step s = exec c { s with pending := rest } := by
  unfold step
  rw [waiting]

theorem step_withFront (c : Instr) (s : State) : step (s.withFront c) = exec c s :=
  step_pending (s := s.withFront c) rfl

/-- A command changes at most the part. -/
theorem exec_changes_part (c : Instr) (s : State) : ∃ p : Part, exec c s = .next { s with part := p } := by
  by_cases asserted : c = .resetInputAsserted
  · exact ⟨s.part.hold, asserted ▸ rfl⟩
  · by_cases powered : ∃ straps pins, c = .powerOnReset straps pins
    · obtain ⟨straps, pins, rfl⟩ := powered
      exact ⟨Part.powerOn straps pins, rfl⟩
    · obtain ⟨f, runs⟩ := exec_eq_run asserted fun straps pins same => powered ⟨straps, pins, same⟩
      exact ⟨s.part.live f, runs s⟩

/-- Settles O1: the step is `exec` of the front command, and a command changes at most the part. -/
theorem stepTakesFrontCommand : Obligations.StepTakesFrontCommand := by
  intro c s
  obtain ⟨p, next⟩ := exec_changes_part c s
  exact ⟨rfl, step_withFront c s, { s with part := p }, next, rfl⟩

end Sys2Proof.Machine
end
